-- ==== Sys2Proof/Word.lean ====
section
/-! DEFINITION. The word types of the block and the shapes of its arrays (10_state.md R24 to R26, 30_encoding.md R70). -/

namespace Sys2Proof

/-- One byte lane of the host port (20_memory.md R52). -/
abbrev Byte := BitVec 8

/-- An operation word, a response data word, SEQ (30_encoding.md R70, R81; 10_state.md R28). -/
abbrev Word := BitVec 32

/-- A timestamp or pulse width. The spec's width is `W <= 16` (00_scope.md R6); the value is held in
16 bits with the bits from `W` up at zero (log entry 11). -/
abbrev Tick := BitVec 16

/-- The 4-bit IDX field: a slot or logical channel index, and one entry of MAP (30_encoding.md R71, 10_state.md R25). -/
abbrev Index := BitVec 4

/-- A bank of `NMAX` = 16 slot entries: the live bank or one snapshot bank (10_state.md R24, R26). -/
abbrev Bank := Vector Tick 16

/-- The channel map of `NMAX` = 16 entries of 4 bits each (10_state.md R25). -/
abbrev ChannelMap := Vector Index 16

end Sys2Proof
end

