-- ==== Sys2Proof/Config.lean ====
section
/-! DEFINITION. The configuration record (00_scope.md R6), its default, and the values the spec leaves free
(00_scope.md R12, 10_state.md R38). -/

namespace Sys2Proof

/-- The configuration record, fixed at elaboration (00_scope.md R6). `NMAX` = 16 and `SEQW` = 32 are fixed
by the types of Word.lean; an entry of `mapCfg` is below `NMAX` by its type. -/
structure Config where
  /-- `W`: width of timestamps and pulse widths. -/
  width : Nat
  /-- `LOW_BOUND`: lower exclusive bound of a pulse. -/
  lowBound : Nat
  /-- `HIGH_BOUND`: upper exclusive bound of a pulse. -/
  highBound : Nat
  /-- `SYNC_BOUND`: a delta strictly above it is a sync gap. -/
  syncBound : Nat
  /-- `NEUTRAL`: the slot value INIT writes. -/
  neutral : Nat
  /-- `MAP_CFG`: the physical slot of each logical channel. -/
  mapCfg : ChannelMap
  /-- `STEP_CYCLES`: clock cycles of one step, left open; no rule reads it (70_reset_and_hazards.md R192). -/
  stepCycles : Nat
  deriving DecidableEq, Repr

/-- The default record of 00_scope.md R6. The spec states no default for `STEP_CYCLES`; 1 is a
DESIGN CHOICE that nothing reads (log entry 14). -/
def Config.default : Config where
  width := 16
  lowBound := 900
  highBound := 2100
  syncBound := 2500
  neutral := 1500
  mapCfg := #v[0, 1, 2, 3, 4, 5, 6, 7, 8, 9, 10, 11, 12, 13, 14, 15]
  stepCycles := 1

/-- `TICK`: one counter tick is 1 microsecond (00_scope.md R6). No rule reads it (60_exceptions.md R169). -/
def Config.tickMicroseconds : Nat := 1

/-- FREE VALUE: what LAST_RISE holds after reset number `k`, a draw (00_scope.md R12, 10_state.md R21; log entry 2). -/
opaque Config.lastRiseDraw (k : Nat) : Tick

/-- FREE VALUE: what `L[i]` holds after reset number `k` (10_state.md R38; log entry 3). -/
opaque Config.liveDraw (k i : Nat) : Tick

/-- FREE VALUE: what `MAP[i]` holds after reset number `k` (10_state.md R38; log entry 3). -/
opaque Config.mapDraw (k i : Nat) : Index

/-- FREE VALUE: what `SNAP[b][i]` holds after reset number `k` (10_state.md R38; log entry 3). -/
opaque Config.snapDraw (k b i : Nat) : Tick

end Sys2Proof
end

