-- ==== Sys2Proof/Syntax.lean ====
section
/-! DEFINITION. The operations of the opcode table (30_encoding.md R72), the fault causes of the host port
(60_exceptions.md R160), and the words and deliveries the two ports carry. -/

namespace Sys2Proof

/-- The ten operations of spec/opcode_table.json, with their operands as 30_encoding.md R73 to R77 assemble them. -/
inductive Instr where
  /-- EDGE, the edge event (40_edge_decoder.md R100): polarity (true is rising) and timestamp. Capture port only. -/
  | edge (pol : Bool) (c : Tick)
  /-- INIT (41_host_port.md R131): whether a capture resource was found, and the channel count. -/
  | init (capOk : Bool) (n : BitVec 16)
  /-- RD_SLOT (41_host_port.md R133): live bank by physical slot. -/
  | rdSlot (idx : Index)
  /-- RD_CH (41_host_port.md R134): live bank by logical channel. -/
  | rdCh (idx : Index)
  /-- WR_CH (41_host_port.md R135): the write stub; both operands are ignored. -/
  | wrCh (idx : Index) (v : BitVec 16)
  /-- RD_MAP (41_host_port.md R136): physical slot of a logical channel. -/
  | rdMap (idx : Index)
  /-- RD_SNAP (41_host_port.md R137): front snapshot bank by physical slot. -/
  | rdSnap (idx : Index)
  /-- RD_SNAP_CH (41_host_port.md R138): front snapshot bank by logical channel. -/
  | rdSnapCh (idx : Index)
  /-- RD_SEQ (41_host_port.md R139): the publication counter. -/
  | rdSeq
  /-- RD_STATUS (41_host_port.md R140): the status view. -/
  | rdStatus
  deriving DecidableEq, Repr

/-- The causes for which a host request faults (60_exceptions.md R160, codes 1 to 8 in this order). -/
inductive FaultCode where
  | illegalOp
  | reservedBits
  | notInitialised
  | reInit
  | badChannelCount
  | badChannelMap
  | slotIndexOutOfRange
  | logicalIndexOutOfRange
  deriving DecidableEq, Repr

/-- What the host interface delivers: bytes on consecutive byte lanes, the first on lane `firstLane`
(20_memory.md R52). Only four bytes from lane 0 are a request (20_memory.md R53). -/
structure Delivery where
  firstLane : Nat
  bytes : List Byte
  deriving DecidableEq, Repr

end Sys2Proof
end

