-- ==== Sys2Proof/WellFormed.lean ====
section
/-! DEFINITION. Well-formed configuration records (00_scope.md R7), well-formed operations (30_encoding.md R73)
and whole deliveries (20_memory.md R53). -/

namespace Sys2Proof

/-- 00_scope.md R7. Its last condition, `MAP_CFG[i] < NMAX`, holds by the entries' 4-bit type. -/
def Config.wf (cfg : Config) : Bool :=
  decide (1 ≤ cfg.width) && decide (cfg.width ≤ 16) &&
  decide (cfg.lowBound < cfg.highBound) && decide (cfg.highBound ≤ cfg.syncBound) &&
  decide (cfg.syncBound < 2 ^ cfg.width) &&
  decide (cfg.lowBound < cfg.neutral) && decide (cfg.neutral < cfg.highBound)

/-- An operation the ports can carry when timestamps are `width` bits wide: the timestamp of an EDGE has no
bit from `width` up (30_encoding.md R73); the other operations' fields are bounded by their types. -/
def Instr.wf (width : Nat) : Instr → Bool
  | .edge _ c => decide (c.toNat < 2 ^ width)
  | .init _ _ | .rdSlot _ | .rdCh _ | .wrCh _ _ | .rdMap _ | .rdSnap _ | .rdSnapCh _ | .rdSeq | .rdStatus => true

/-- The operations of the host port: all but EDGE (30_encoding.md R72, R80). -/
def Instr.onHostPort : Instr → Bool
  | .edge _ _ => false
  | .init _ _ | .rdSlot _ | .rdCh _ | .wrCh _ _ | .rdMap _ | .rdSnap _ | .rdSnapCh _ | .rdSeq | .rdStatus => true

/-- The operations that read an indexed entry and so have the initialisation check (41_host_port.md R130 step 2). -/
def Instr.isIndexedRead : Instr → Bool
  | .rdSlot _ | .rdCh _ | .rdMap _ | .rdSnap _ | .rdSnapCh _ => true
  | .edge _ _ | .init _ _ | .wrCh _ _ | .rdSeq | .rdStatus => false

/-- A delivery that is a whole request word: four bytes from lane 0 (20_memory.md R53). -/
def Delivery.wf (d : Delivery) : Bool :=
  decide (d.firstLane = 0) && decide (d.bytes.length = 4)

end Sys2Proof
end

