-- ==== Sys2Proof/Decode.lean ====
section
/-! DEFINITION. The operation word (30_encoding.md R70 to R82): its fields, the decoder of each port, total on any
input and rejecting by name, and the encoder. -/

namespace Sys2Proof

/-- `OP` = bits 31:28 (30_encoding.md R71). -/
def opField (w : Word) : BitVec 4 := w.extractLsb' 28 4

/-- `IDX` = bits 27:24. -/
def idxField (w : Word) : Index := w.extractLsb' 24 4

/-- `RSV` = bits 23:17. -/
def rsvField (w : Word) : BitVec 7 := w.extractLsb' 17 7

/-- `F` = bit 16: POL in EDGE, CAP_OK in INIT. -/
def flagField (w : Word) : Bool := w.getLsbD 16

/-- `DATA` = bits 15:0. -/
def dataField (w : Word) : BitVec 16 := w.extractLsb' 0 16

/-- What a host word is (41_host_port.md R130 step 1). -/
inductive HostDecode where
  | request (i : Instr)
  | faulty (f : FaultCode)
  deriving DecidableEq, Repr

/-- A host word with a legal `OP`: a request if its fixed bits are as they must be, else ReservedBits
(30_encoding.md R79). -/
def requestIf (fixedBitsOk : Bool) (i : Instr) : HostDecode :=
  if fixedBitsOk then .request i else .faulty .reservedBits

/-- The fixed bits of the indexed reads: `RSV`, `F` and `DATA` are 0 (30_encoding.md R75). -/
def onlyIndex (w : Word) : Bool :=
  decide (rsvField w = 0) && !flagField w && decide (dataField w = 0)

/-- The host port's decoder (30_encoding.md R72, R74 to R80). EDGE and the reserved opcodes are IllegalOp. -/
def decodeHost (w : Word) : HostDecode :=
  let op := (opField w).toNat
  if op = 2 then
    requestIf (decide (idxField w = 0) && decide (rsvField w = 0)) (.init (flagField w) (dataField w))
  else if op = 3 then requestIf (onlyIndex w) (.rdSlot (idxField w))
  else if op = 4 then requestIf (onlyIndex w) (.rdCh (idxField w))
  else if op = 5 then
    requestIf (decide (rsvField w = 0) && !flagField w) (.wrCh (idxField w) (dataField w))
  else if op = 6 then requestIf (onlyIndex w) (.rdMap (idxField w))
  else if op = 7 then requestIf (onlyIndex w) (.rdSnap (idxField w))
  else if op = 8 then requestIf (onlyIndex w) (.rdSnapCh (idxField w))
  else if op = 9 then requestIf (decide (idxField w = 0) && onlyIndex w) .rdSeq
  else if op = 10 then requestIf (decide (idxField w = 0) && onlyIndex w) .rdStatus
  else .faulty .illegalOp

/-- The capture port's decoder for `width`-bit timestamps (30_encoding.md R73, R80): a word that is not a
well-formed EDGE spells no event, and nothing is answered for it. -/
def decodeCapture (width : Nat) (w : Word) : Option Instr :=
  if decide (opField w = 1) && decide (idxField w = 0) && decide (rsvField w = 0) &&
      decide ((dataField w).toNat < 2 ^ width) then
    some (.edge (flagField w) (dataField w))
  else none

/-- The request word of a delivery, lane 0 least significant (20_memory.md R52); none where the delivery is
partial or misaligned (20_memory.md R53). -/
def wordOfDelivery (d : Delivery) : Option Word :=
  match d.firstLane, d.bytes with
  | 0, [b0, b1, b2, b3] => some (b3 ++ b2 ++ b1 ++ b0)
  | _, _ => none

/-- The delivery that carries a whole word. -/
def deliveryOf (w : Word) : Delivery where
  firstLane := 0
  bytes := [w.extractLsb' 0 8, w.extractLsb' 8 8, w.extractLsb' 16 8, w.extractLsb' 24 8]

/-- An operation word from its fields, RSV being 0 (30_encoding.md R71). -/
def operationWord (op : BitVec 4) (idx : Index) (f : Bool) (data : BitVec 16) : Word :=
  op ++ idx ++ (0 : BitVec 7) ++ BitVec.ofBool f ++ data

/-- The encoder (30_encoding.md R72 to R77). -/
def encode : Instr → Word
  | .edge pol c => operationWord 0x1 0 pol c
  | .init capOk n => operationWord 0x2 0 capOk n
  | .rdSlot idx => operationWord 0x3 idx false 0
  | .rdCh idx => operationWord 0x4 idx false 0
  | .wrCh idx v => operationWord 0x5 idx false v
  | .rdMap idx => operationWord 0x6 idx false 0
  | .rdSnap idx => operationWord 0x7 idx false 0
  | .rdSnapCh idx => operationWord 0x8 idx false 0
  | .rdSeq => operationWord 0x9 0 false 0
  | .rdStatus => operationWord 0xA 0 false 0

/-- The fixed bits of an operation's row, and their values (`match` and `mask` of 30_encoding.md R73 to R77). -/
def rowMatch : Instr → Word
  | .edge _ _ => 0x10000000
  | .init _ _ => 0x20000000
  | .rdSlot _ => 0x30000000
  | .rdCh _ => 0x40000000
  | .wrCh _ _ => 0x50000000
  | .rdMap _ => 0x60000000
  | .rdSnap _ => 0x70000000
  | .rdSnapCh _ => 0x80000000
  | .rdSeq => 0x90000000
  | .rdStatus => 0xA0000000

/-- See `rowMatch`. -/
def rowMask : Instr → Word
  | .edge _ _ | .init _ _ => 0xFFFE0000
  | .rdSlot _ | .rdCh _ | .rdMap _ | .rdSnap _ | .rdSnapCh _ => 0xF0FFFFFF
  | .wrCh _ _ => 0xF0FF0000
  | .rdSeq | .rdStatus => 0xFFFFFFFF

/-- The instruction the decoder reads from the table's bits: a word with `OP` = 1 on the capture port with
the default width, any other on the host port, delivered by its four byte lanes. -/
def decodeTableWord (nbits w : Nat) : Option Instr :=
  let word := BitVec.ofNat 32 (w % 2 ^ nbits)
  if opField word = 1 then decodeCapture Config.default.width word
  else
    match wordOfDelivery (deliveryOf word) with
    | none => none
    | some request =>
      match decodeHost request with
      | .request i => some i
      | .faulty _ => none

end Sys2Proof
end

