-- ==== Sys2Proof/Machine/State.lean ====
section
/-! DEFINITION. The state of the block (10_state.md R20 to R40), the ports and the schedule of the environment, the
reasons a step can stop, and the state after reset (10_state.md R38, 70_reset_and_hazards.md R180). -/

namespace Sys2Proof.Machine

/-- Who takes a step (00_scope.md R3, 20_memory.md R56). -/
inductive Agent where
  | capture
  | host
  | resetPin
  deriving DecidableEq, Repr

/-- One entry of the schedule: what the ports are given before the step, and which agent then steps. The order
of the agents is free (20_memory.md R56), so a schedule is any list of these (log entry 5). -/
structure Turn where
  agent : Agent
  /-- Edge words the capture unit presents before this step, oldest first. -/
  captured : List Word
  /-- Requests the host presents before this step, oldest first. -/
  requested : List Delivery
  deriving DecidableEq, Repr

/-- RSTAT (30_encoding.md R81): bit 0 is OK, bit 1 is ERR. -/
inductive ResponseStatus where
  | ok
  | err
  deriving DecidableEq, Repr

/-- The response to one host request, `(RSTAT, RDATA)` (30_encoding.md R81). -/
structure Response where
  rstat : ResponseStatus
  rdata : Word
  deriving DecidableEq, Repr

/-- One entry of the sticky fault record: the faulting request's word and its code (10_state.md R40). -/
structure FaultEntry where
  request : Word
  code : FaultCode
  deriving DecidableEq, Repr

/-- Everything the spec gives the machine, and the model's own fields `cfg`, `turns` and `draws`. -/
structure State where
  /-- The configuration record (00_scope.md R6); no step changes it (log entry 1). -/
  cfg : Config
  /-- LAST_RISE (10_state.md R21). -/
  lastRise : Tick
  /-- CURSOR (10_state.md R22). -/
  cursor : BitVec 5
  /-- NCH (10_state.md R23). -/
  nch : BitVec 5
  /-- L, the live bank (10_state.md R24). -/
  live : Bank
  /-- MAP, the channel map (10_state.md R25). -/
  map : ChannelMap
  /-- SNAP[0] (10_state.md R26). -/
  snap0 : Bank
  /-- SNAP[1] (10_state.md R26). -/
  snap1 : Bank
  /-- FRONT (10_state.md R27); false is 0. -/
  front : Bool
  /-- SEQ (10_state.md R28). -/
  seq : BitVec 32
  /-- FRAME_OK (10_state.md R29). -/
  frameOk : Bool
  /-- EN (10_state.md R30). -/
  en : Bool
  /-- INITED (10_state.md R31). -/
  inited : Bool
  /-- CFG_ERR (10_state.md R32). -/
  cfgErr : Bool
  /-- HOST_ERR (10_state.md R33). -/
  hostErr : Bool
  /-- ERR_CODE (10_state.md R34). -/
  errCode : BitVec 4
  /-- Edge words presented and not yet performed, oldest first (60_exceptions.md R167, 70_reset_and_hazards.md R180). -/
  captureQueue : List Word
  /-- Host deliveries presented and not yet performed, oldest first (20_memory.md R59, 70_reset_and_hazards.md R180). -/
  hostQueue : List Delivery
  /-- The responses given, oldest first (30_encoding.md R81; log entry 8). -/
  responses : List Response
  /-- The sticky fault record, oldest first (10_state.md R40). -/
  faultRecord : List FaultEntry
  /-- The schedule still to come (log entry 5). -/
  turns : List Turn
  /-- How many resets have drawn free values (log entry 4). -/
  draws : Nat
  deriving DecidableEq, Repr

/-- Why the machine stops with a fault. The host-port faults of 60_exceptions.md R160 are not here: the block goes
on after them, so they are next states (log entry 6). -/
inductive Fault where
  /-- Raised by a stored pulse when `CURSOR < NCH` and `CURSOR >= 16`: the slot does not exist. Safe: no run
  reaches such a state (10_state.md R39 I1, I4; log entry 9). -/
  | slotOutsideStore
  deriving DecidableEq, Repr

/-- Why the model refuses. -/
inductive Refusal where
  /-- Raised by `exec` for an instruction without a meaning; no arm does. Safe. -/
  | notModelled (mnemonic : String)
  /-- Raised by `step`: the configuration record is not well-formed (00_scope.md R7). Safe: the spec has the
  model refuse it. -/
  | badConfig
  /-- Raised by the capture port, and by EDGE on a timestamp wider than `W`: the word spells no event
  (30_encoding.md R73, R80). Safe: no such event can reach the hardware. -/
  | noEvent
  /-- Raised by the host port: a partial or misaligned word delivers no request (20_memory.md R53). Safe: the
  spec has the model refuse it. -/
  | partialWord
  deriving DecidableEq, Repr

/-- A bank of 16 entries from a function of the index. -/
def bankOf (f : Nat → Tick) : Bank :=
  #v[f 0, f 1, f 2, f 3, f 4, f 5, f 6, f 7, f 8, f 9, f 10, f 11, f 12, f 13, f 14, f 15]

/-- A channel map from a function of the index. -/
def mapOf (f : Nat → Index) : ChannelMap :=
  #v[f 0, f 1, f 2, f 3, f 4, f 5, f 6, f 7, f 8, f 9, f 10, f 11, f 12, f 13, f 14, f 15]

/-- The machine right after reset (10_state.md R38), elaborated with the default record (00_scope.md R6).
LAST_RISE and the arrays hold the free values of draw 0 (log entries 2 and 3). -/
def State.reset : State where
  cfg := Config.default
  lastRise := Config.lastRiseDraw 0
  cursor := 0
  nch := 0
  live := bankOf (Config.liveDraw 0)
  map := mapOf (Config.mapDraw 0)
  snap0 := bankOf (Config.snapDraw 0 0)
  snap1 := bankOf (Config.snapDraw 0 1)
  front := false
  seq := 0
  frameOk := false
  en := false
  inited := false
  cfgErr := false
  hostErr := false
  errCode := 0
  captureQueue := []
  hostQueue := []
  responses := []
  faultRecord := []
  turns := []
  draws := 1

end Sys2Proof.Machine
end

