-- ==== Sys2Proof/Machine/Ops.lean ====
section
/-! DEFINITION. The named operations over State: width and bank access, responses, taking a fault
(60_exceptions.md R162), reset (70_reset_and_hazards.md R180), and what the next turn brings to a port. -/

namespace Sys2Proof.Machine

/-- `zext_32` (00_scope.md R8, 20_memory.md R51). -/
def zext32 {n : Nat} (v : BitVec n) : Word := v.setWidth 32

/-- `sext_32`, defined for completeness; no rule uses it (00_scope.md R8). -/
def sext32 {n : Nat} (v : BitVec n) : Word := v.signExtend 32

/-- The `width` low bits of a value: how a `W`-bit register takes a 16-bit value (log entry 11). -/
def truncTick (width : Nat) (v : Tick) : Tick := BitVec.ofNat 16 (v.toNat % 2 ^ width)

/-- `NEUTRAL` as a slot value (00_scope.md R6). -/
def neutralTick (cfg : Config) : Tick := BitVec.ofNat 16 cfg.neutral

/-- The entry of a bank at a 4-bit index (20_memory.md R50). -/
def readBank (b : Bank) (i : Index) : Tick := b[i.toNat]'i.isLt

/-- The entry of the channel map at a 4-bit index (10_state.md R25). -/
def readMap (m : ChannelMap) (i : Index) : Index := m[i.toNat]'i.isLt

/-- A bank with entry `i` replaced; an index past the bank replaces nothing (`storeFits` rules that out). -/
def writeBank (b : Bank) (i : Nat) (v : Tick) : Bank := b.setIfInBounds i v

/-- The front bank, `SNAP[FRONT]` (10_state.md R26, R27). -/
def frontBank (s : State) : Bank := if s.front then s.snap1 else s.snap0

/-- The back bank, `SNAP[1 - FRONT]` (10_state.md R26, R27). -/
def backBank (s : State) : Bank := if s.front then s.snap0 else s.snap1

/-- The 4-bit code of a fault (60_exceptions.md R160). -/
def codeOf : FaultCode → BitVec 4
  | .illegalOp => 1
  | .reservedBits => 2
  | .notInitialised => 3
  | .reInit => 4
  | .badChannelCount => 5
  | .badChannelMap => 6
  | .slotIndexOutOfRange => 7
  | .logicalIndexOutOfRange => 8

/-- RSTAT as a bit (30_encoding.md R81). -/
def rstatBit : ResponseStatus → BitVec 1
  | .ok => 0
  | .err => 1

/-- `respond(v)`: the request ends OK with `v` (00_scope.md R10, 30_encoding.md R81). -/
def respond (v : Word) (s : State) : State :=
  { s with responses := s.responses ++ [⟨.ok, v⟩] }

/-- Taking a host fault, `raise <Fault>(code)`: respond ERR with the code, set HOST_ERR and ERR_CODE, change
nothing else (60_exceptions.md R162), and add the request to the fault record (60_exceptions.md R174).
The block has no trap entry and no return from one (60_exceptions.md R163). -/
def raiseFault (request : Word) (f : FaultCode) (s : State) : State :=
  { s with
    hostErr := true
    errCode := codeOf f
    faultRecord := s.faultRecord ++ [⟨request, f⟩]
    responses := s.responses ++ [⟨.err, zext32 (codeOf f)⟩] }

/-- How a host request ends: with the fault its checks name, else as `done` says (41_host_port.md R130). -/
def endRequest (i : Instr) (check : Option FaultCode) (done : State) (s : State) :
    Host.Outcome State Fault Refusal :=
  match check with
  | some f => .next (raiseFault (encode i) f s)
  | none => .next done

/-- The reset step (70_reset_and_hazards.md R180): every element at its reset value (10_state.md R38), the
unspecified ones with fresh free values, what is pending at the ports discarded, the fault record kept. -/
def assertReset (s : State) : State :=
  { s with
    lastRise := truncTick s.cfg.width (Config.lastRiseDraw s.draws)
    cursor := 0
    nch := 0
    live := bankOf fun i => truncTick s.cfg.width (Config.liveDraw s.draws i)
    map := mapOf fun i => Config.mapDraw s.draws i
    snap0 := bankOf fun i => truncTick s.cfg.width (Config.snapDraw s.draws 0 i)
    snap1 := bankOf fun i => truncTick s.cfg.width (Config.snapDraw s.draws 1 i)
    front := false
    seq := 0
    frameOk := false
    en := false
    inited := false
    cfgErr := false
    hostErr := false
    errCode := 0
    captureQueue := []
    hostQueue := []
    draws := s.draws + 1 }

/-- What a step finds to do. -/
inductive Fetched where
  /-- Nothing: the schedule is at its end, or the agent whose turn it is has nothing pending. -/
  | idle
  /-- The reset pin is asserted. -/
  | reset
  /-- A port's word decodes to an operation. -/
  | run (i : Instr)
  /-- A host word faults at decode (41_host_port.md R130 step 1). -/
  | badRequest (w : Word) (f : FaultCode)
  /-- What stands at the port is no event and no request. -/
  | refuse (r : Refusal)
  deriving DecidableEq, Repr

/-- The ports take what a turn presents, behind what is already pending (20_memory.md R56, R59). -/
def arrive (t : Turn) (s : State) : State :=
  { s with
    captureQueue := s.captureQueue ++ t.captured
    hostQueue := s.hostQueue ++ t.requested }

/-- What a capture word is to a block with `width`-bit timestamps (30_encoding.md R73, R80). -/
def readCapture (width : Nat) (w : Word) : Fetched :=
  match decodeCapture width w with
  | some i => .run i
  | none => .refuse .noEvent

/-- What a host delivery is (20_memory.md R53, 41_host_port.md R130 step 1). -/
def readDelivery (d : Delivery) : Fetched :=
  match wordOfDelivery d with
  | none => .refuse .partialWord
  | some w =>
    match decodeHost w with
    | .request i => .run i
    | .faulty f => .badRequest w f

/-- The oldest event pending at the capture port, taken off it. -/
def fetchCapture (s : State) : Fetched × State :=
  match s.captureQueue with
  | [] => (.idle, s)
  | w :: ws => (readCapture s.cfg.width w, { s with captureQueue := ws })

/-- The oldest request pending at the host port, taken off it. -/
def fetchHost (s : State) : Fetched × State :=
  match s.hostQueue with
  | [] => (.idle, s)
  | d :: ds => (readDelivery d, { s with hostQueue := ds })

/-- What the next turn of the schedule brings, and the state with that turn and that item taken. A reset goes
ahead of all that is pending (60_exceptions.md R167). -/
def fetch (s : State) : Fetched × State :=
  match s.turns with
  | [] => (.idle, s)
  | t :: ts =>
    let s' := arrive t { s with turns := ts }
    match t.agent with
    | .resetPin => (.reset, s')
    | .capture => fetchCapture s'
    | .host => fetchHost s'

/-- `s` with one operation word next: an `OP` = 1 word at the head of the capture port, any other at the head
of the host port, and that port's turn first in the schedule. -/
def placeWord (s : State) (w : Word) : State :=
  if opField w = 1 then
    { s with captureQueue := w :: s.captureQueue, turns := ⟨.capture, [], []⟩ :: s.turns }
  else
    { s with hostQueue := deliveryOf w :: s.hostQueue, turns := ⟨.host, [], []⟩ :: s.turns }

end Sys2Proof.Machine
end

