-- ==== Sys2Proof/Machine/Flags.lean ====
section
/-! DEFINITION. The delta calculator (40_edge_decoder.md R103), the classifier (R104) and the STATUS view
(10_state.md R36). -/

namespace Sys2Proof.Machine

/-- The class of a delta (40_edge_decoder.md R104). There is exactly one glitch class (R112). -/
inductive DeltaClass where
  | pulse
  | sync
  | glitch
  deriving DecidableEq, Repr

/-- `delta(c, last) = (c - last) mod 2^W` (40_edge_decoder.md R103). -/
def delta (width : Nat) (c last : Tick) : Tick := truncTick width (c - last)

/-- `classify(diff)`, with strict bounds, tested in this order (40_edge_decoder.md R104, 00_scope.md R11). -/
def classify (cfg : Config) (diff : Tick) : DeltaClass :=
  if cfg.lowBound < diff.toNat ∧ diff.toNat < cfg.highBound then .pulse
  else if cfg.syncBound < diff.toNat then .sync
  else .glitch

/-- The STATUS word, from bit 31 down to bit 0; unlisted bits read 0 (10_state.md R36). -/
def statusWord (s : State) : Word :=
  (0 : BitVec 4) ++ s.errCode ++ (0 : BitVec 3) ++ s.nch ++ (0 : BitVec 3) ++ s.cursor ++ (0 : BitVec 2) ++
    BitVec.ofBool s.hostErr ++ BitVec.ofBool s.frameOk ++ BitVec.ofBool s.front ++
    BitVec.ofBool s.cfgErr ++ BitVec.ofBool s.inited ++ BitVec.ofBool s.en

end Sys2Proof.Machine
end

