-- ==== Sys2Proof/Machine/Edge.lean ====
section
/-! DEFINITION. EDGE and its stages (40_edge_decoder.md R100 to R110). Each stage reads the state as it stood at the
start of the step (00_scope.md R9). -/

namespace Sys2Proof.Machine

/-- The anchor update (40_edge_decoder.md R110). -/
def anchor (c : Tick) (s : State) : State := { s with lastRise := c }

/-- Store: the pulse goes to the live slot and the back-bank entry at CURSOR, and CURSOR advances
(40_edge_decoder.md R105). -/
def store (diff : Tick) (s : State) : State :=
  { s with
    live := writeBank s.live s.cursor.toNat diff
    snap0 := if s.front then writeBank s.snap0 s.cursor.toNat diff else s.snap0
    snap1 := if s.front then s.snap1 else writeBank s.snap1 s.cursor.toNat diff
    cursor := s.cursor + 1 }

/-- The slot at CURSOR exists. It always does when `CURSOR < NCH <= 16` (10_state.md R39 I1, I4; log entry 9). -/
def storeFits (s : State) : Bool := decide (s.cursor.toNat < 16)

/-- Drop: nothing is written (40_edge_decoder.md R106). -/
def drop (s : State) : State := s

/-- Publish: the atomic frame swap (40_edge_decoder.md R108). SEQ wraps modulo `2^32`. -/
def publish (s : State) : State := { s with front := !s.front, seq := s.seq + 1 }

/-- The frame that ends at this sync is complete and glitch-free (40_edge_decoder.md R107). -/
def frameComplete (s : State) : Bool := s.frameOk && decide (s.cursor = s.nch)

/-- CURSOR and FRAME_OK at a frame boundary (40_edge_decoder.md R107). -/
def openFrame (s : State) : State := { s with cursor := 0, frameOk := true }

/-- Sync: publish a complete frame, then open the next (40_edge_decoder.md R107). -/
def sync (s : State) : State := openFrame (if frameComplete s then publish s else s)

/-- Glitch: freeze the cursor and spoil the frame (40_edge_decoder.md R109). -/
def glitch (s : State) : State := { s with cursor := s.nch, frameOk := false }

/-- A rising edge of the enabled block whose delta is `diff`, but for the anchor (40_edge_decoder.md R104 to R109). -/
def takeDelta (diff : Tick) (s : State) : Host.Outcome State Fault Refusal :=
  match classify s.cfg diff with
  | .pulse =>
    if s.cursor.toNat < s.nch.toNat then
      if storeFits s then .next (store diff s) else .fault .slotOutsideStore
    else .next (drop s)
  | .sync => .next (sync s)
  | .glitch => .next (glitch s)

/-- A rising edge of the enabled block at time `c` (40_edge_decoder.md R103 to R110). -/
def risingEdge (c : Tick) (s : State) : Host.Outcome State Fault Refusal :=
  match takeDelta (delta s.cfg.width c s.lastRise) s with
  | .next t => .next (anchor c t)
  | .fault f => .fault f
  | .refused r => .refused r

/-- EDGE (40_edge_decoder.md R100): the enable gate (R101), the polarity filter (R102), then the rising edge. A
timestamp wider than `W` spells no event (30_encoding.md R73; log entry 15). -/
def execEdge (pol : Bool) (c : Tick) (s : State) : Host.Outcome State Fault Refusal :=
  if c.toNat < 2 ^ s.cfg.width then
    if s.en = false then .next s
    else if pol = false then .next s
    else risingEdge c s
  else .refused .noEvent

end Sys2Proof.Machine
end

