-- ==== Sys2Proof/Machine/Operands.lean ====
section
/-! DEFINITION. The operand checks of the host requests (41_host_port.md R130 steps 2 and 3), in the order of
60_exceptions.md R161. -/

namespace Sys2Proof.Machine

/-- The checks of an indexed read: NotInitialised, then the index against NCH (41_host_port.md R133 to R138). -/
def indexCheck (outOfRange : FaultCode) (idx : Index) (s : State) : Option FaultCode :=
  if s.inited = false then some .notInitialised
  else if s.nch.toNat ≤ idx.toNat then some outOfRange
  else none

/-- Every used logical channel of `MAP_CFG` names one of the `n` slots (41_host_port.md R131). -/
def mapFits (m : ChannelMap) (n : Nat) : Bool :=
  decide (∀ i : Fin 16, i.val < n → (m[i.val]).toNat < n)

/-- The checks of INIT: ReInit, then BadChannelCount, then BadChannelMap (41_host_port.md R131). -/
def initCheck (n : BitVec 16) (s : State) : Option FaultCode :=
  if s.inited then some .reInit
  else if n.toNat < 1 ∨ 16 < n.toNat then some .badChannelCount
  else if mapFits s.cfg.mapCfg n.toNat = false then some .badChannelMap
  else none

end Sys2Proof.Machine
end

