-- ==== Sys2Proof/Machine/HostReads.lean ====
section
/-! DEFINITION. The host requests other than INIT: the live-bank reads, the write stub, the map lookup, the snapshot
reads, RD_SEQ and RD_STATUS (41_host_port.md R133 to R140). -/

namespace Sys2Proof.Machine

/-- RD_SLOT (41_host_port.md R133). -/
def execRdSlot (idx : Index) (s : State) : Host.Outcome State Fault Refusal :=
  endRequest (.rdSlot idx) (indexCheck .slotIndexOutOfRange idx s)
    (respond (zext32 (readBank s.live idx)) s) s

/-- RD_CH (41_host_port.md R134). -/
def execRdCh (idx : Index) (s : State) : Host.Outcome State Fault Refusal :=
  endRequest (.rdCh idx) (indexCheck .logicalIndexOutOfRange idx s)
    (respond (zext32 (readBank s.live (readMap s.map idx))) s) s

/-- WR_CH, the write stub: respond 0 and do nothing, in every state; both operands are ignored
(41_host_port.md R135). -/
def execWrCh (_idx : Index) (_v : BitVec 16) (s : State) : Host.Outcome State Fault Refusal :=
  .next (respond 0 s)

/-- RD_MAP (41_host_port.md R136). -/
def execRdMap (idx : Index) (s : State) : Host.Outcome State Fault Refusal :=
  endRequest (.rdMap idx) (indexCheck .logicalIndexOutOfRange idx s)
    (respond (zext32 (readMap s.map idx)) s) s

/-- RD_SNAP (41_host_port.md R137). -/
def execRdSnap (idx : Index) (s : State) : Host.Outcome State Fault Refusal :=
  endRequest (.rdSnap idx) (indexCheck .slotIndexOutOfRange idx s)
    (respond (zext32 (readBank (frontBank s) idx)) s) s

/-- RD_SNAP_CH (41_host_port.md R138). -/
def execRdSnapCh (idx : Index) (s : State) : Host.Outcome State Fault Refusal :=
  endRequest (.rdSnapCh idx) (indexCheck .logicalIndexOutOfRange idx s)
    (respond (zext32 (readBank (frontBank s) (readMap s.map idx))) s) s

/-- RD_SEQ (41_host_port.md R139). -/
def execRdSeq (s : State) : Host.Outcome State Fault Refusal :=
  .next (respond s.seq s)

/-- RD_STATUS (41_host_port.md R140). -/
def execRdStatus (s : State) : Host.Outcome State Fault Refusal :=
  .next (respond (statusWord s) s)

end Sys2Proof.Machine
end

