-- ==== Sys2Proof/Machine/Init.lean ====
section
/-! DEFINITION. INIT (41_host_port.md R131, R132). -/

namespace Sys2Proof.Machine

/-- What a successful INIT writes: neutral slots and banks, the map, the frozen cursor, and EN or CFG_ERR by
whether a capture resource was found (41_host_port.md R131, R132). `n` is at most 16, so 5 bits hold it. -/
def initialise (capOk : Bool) (n : BitVec 16) (s : State) : State :=
  { s with
    live := Vector.replicate 16 (neutralTick s.cfg)
    snap0 := Vector.replicate 16 (neutralTick s.cfg)
    snap1 := Vector.replicate 16 (neutralTick s.cfg)
    map := s.cfg.mapCfg
    nch := n.setWidth 5
    cursor := n.setWidth 5
    frameOk := false
    front := false
    seq := 0
    inited := true
    en := capOk
    cfgErr := !capOk }

/-- INIT (41_host_port.md R131). -/
def execInit (capOk : Bool) (n : BitVec 16) (s : State) : Host.Outcome State Fault Refusal :=
  endRequest (.init capOk n) (initCheck n s) (respond 0 (initialise capOk n s)) s

end Sys2Proof.Machine
end

