-- ==== Sys2Proof/Machine/Dispatch.lean ====
section
/-! DEFINITION. One arm per operation of the opcode table (30_encoding.md R72). -/

namespace Sys2Proof.Machine

def exec (i : Instr) (s : State) : Host.Outcome State Fault Refusal :=
  match i with
  | .edge pol c => Sys2Proof.Machine.execEdge pol c s
  | .init capOk n => Sys2Proof.Machine.execInit capOk n s
  | .rdSlot idx => Sys2Proof.Machine.execRdSlot idx s
  | .rdCh idx => Sys2Proof.Machine.execRdCh idx s
  | .wrCh idx v => Sys2Proof.Machine.execWrCh idx v s
  | .rdMap idx => Sys2Proof.Machine.execRdMap idx s
  | .rdSnap idx => Sys2Proof.Machine.execRdSnap idx s
  | .rdSnapCh idx => Sys2Proof.Machine.execRdSnapCh idx s
  | .rdSeq => Sys2Proof.Machine.execRdSeq s
  | .rdStatus => Sys2Proof.Machine.execRdStatus s

end Sys2Proof.Machine
end

