-- ==== Sys2Proof/Machine/Step.lean ====
section
/-! DEFINITION. One step of the machine (20_memory.md R56): the next turn's event, request or reset, whole. -/

namespace Sys2Proof.Machine

/-- One step. A configuration record that is not well-formed is refused (00_scope.md R7). -/
def step (s : State) : Host.Outcome State Fault Refusal :=
  if s.cfg.wf then
    match fetch s with
    | (.idle, t) => .next t
    | (.reset, t) => .next (assertReset t)
    | (.run i, t) => exec i t
    | (.badRequest w f, t) => .next (raiseFault w f t)
    | (.refuse r, _) => .refused r
  else .refused .badConfig

/-- `s` with the instruction of bits `w` placed so that the very next step runs it (log entry 12). -/
def State.withFetchWord (s : State) (nbits w : Nat) : State :=
  placeWord s (BitVec.ofNat 32 (w % 2 ^ nbits))

end Sys2Proof.Machine
end

