-- ==== Sys2Proof/Machine/Trace.lean ====
section
/-! DEFINITION. A program for the block: a trace of tagged lines (30_encoding.md R83), its pseudo-operations
(30_encoding.md R84), and the schedule it stands for. TraceText.lean reads the lines' text (log entry 13). -/

namespace Sys2Proof.Machine

/-- One line of a trace (30_encoding.md R83, R84). -/
inductive TraceLine where
  /-- `RESET`. -/
  | reset
  /-- `C: EDGE <c>, rise` or `C: EDGE <c>, fall`. -/
  | edge (c : Tick) (rise : Bool)
  /-- `C: RISE_AFTER <d>`. -/
  | riseAfter (d : Nat)
  /-- `C: FALL_AFTER <d>`. -/
  | fallAfter (d : Nat)
  /-- `H: <request>`. -/
  | request (i : Instr)
  /-- `H: <word>`, as in 95_test_vectors.md program P4. -/
  | requestWord (w : Word)
  /-- `H: READ_FRAME <k>`. -/
  | readFrame (k : Nat)
  deriving DecidableEq, Repr

/-- A capture event as one step of the trace. -/
def captureTurn (w : Word) : Turn := ⟨.capture, [w], []⟩

/-- A host request as one step of the trace. -/
def hostTurn (w : Word) : Turn := ⟨.host, [], [deliveryOf w]⟩

/-- A reset as one step of the trace. -/
def resetTurn : Turn := ⟨.resetPin, [], []⟩

/-- `(T + d) mod 2^W` (30_encoding.md R84). -/
def timeAfter (width : Nat) (t : Tick) (d : Nat) : Tick := BitVec.ofNat 16 ((t.toNat + d) % 2 ^ width)

/-- What `READ_FRAME k` expands to (30_encoding.md R84, 20_memory.md R60). -/
def readFrameTurns (k : Nat) : List Turn :=
  hostTurn (encode .rdSeq) ::
    ((List.range k).map fun i => hostTurn (encode (.rdSnap (BitVec.ofNat 4 i)))) ++ [hostTurn (encode .rdSeq)]

/-- One line, with the assembler's time cursor `T` before and after it (30_encoding.md R84). None is an
assembly error: a `RISE_AFTER` or `FALL_AFTER` before any rising EDGE, or a `READ_FRAME` past index 15
(log entry 13). -/
def assembleLine (width : Nat) (time : Option Tick) (l : TraceLine) : Option (Option Tick × List Turn) :=
  match l, time with
  | .reset, _ => some (time, [resetTurn])
  | .edge c true, _ => some (some c, [captureTurn (encode (.edge true c))])
  | .edge c false, _ => some (time, [captureTurn (encode (.edge false c))])
  | .riseAfter d, some t =>
    some (some (timeAfter width t d), [captureTurn (encode (.edge true (timeAfter width t d)))])
  | .riseAfter _, none => none
  | .fallAfter d, some t => some (some t, [captureTurn (encode (.edge false (timeAfter width t d)))])
  | .fallAfter _, none => none
  | .request i, _ => some (time, [hostTurn (encode i)])
  | .requestWord w, _ => some (time, [hostTurn w])
  | .readFrame k, _ => if k ≤ 16 then some (time, readFrameTurns k) else none

/-- A trace as a schedule (30_encoding.md R83). -/
def assemble (width : Nat) (time : Option Tick) : List TraceLine → Option (List Turn)
  | [] => some []
  | l :: ls =>
    match assembleLine width time l with
    | none => none
    | some (time', ts) =>
      match assemble width time' ls with
      | none => none
      | some rest => some (ts ++ rest)

/-- `s` with a trace to perform behind its schedule; a trace that does not assemble loads nothing. -/
def State.loadTrace (s : State) (ls : List TraceLine) : Option State :=
  match assemble s.cfg.width none ls with
  | none => none
  | some ts => some { s with turns := s.turns ++ ts }

end Sys2Proof.Machine
end

