-- ==== Sys2Proof/Safety.lean ====
section
/-! DEFINITION. What claims about the block are stated in: the invariants of 10_state.md R39 and the one behind
40_edge_decoder.md R114, good runs (60_exceptions.md R174), frames, runs of edges and counts of publications. -/

namespace Sys2Proof

/-- A delta in the PULSE range (40_edge_decoder.md R104, 00_scope.md R11). -/
abbrev Config.isPulse (cfg : Config) (d : Nat) : Prop := cfg.lowBound < d ∧ d < cfg.highBound

/-- A delta in the SYNC range. -/
abbrev Config.isSync (cfg : Config) (d : Nat) : Prop := cfg.syncBound < d

/-- A delta in the GLITCH range, inclusive at every bound. -/
abbrev Config.isGlitch (cfg : Config) (d : Nat) : Prop :=
  d ≤ cfg.lowBound ∨ (cfg.highBound ≤ d ∧ d ≤ cfg.syncBound)

end Sys2Proof

namespace Sys2Proof.Machine

/-- No host request has faulted (60_exceptions.md R174): the record of 10_state.md R40 is empty. -/
abbrev State.Good (s : State) : Prop := s.faultRecord = []

/-- Registers of `W` bits hold `W`-bit values (10_state.md R21, R24, R26). -/
abbrev State.WidthsHold (s : State) : Prop :=
  s.lastRise.toNat < 2 ^ s.cfg.width ∧
    ∀ i : Fin 16, s.live[i].toNat < 2 ^ s.cfg.width ∧ s.snap0[i].toNat < 2 ^ s.cfg.width ∧
      s.snap1[i].toNat < 2 ^ s.cfg.width

/-- 10_state.md R39 I1. -/
abbrev State.CursorBounded (s : State) : Prop := s.cursor.toNat ≤ s.nch.toNat

/-- 10_state.md R39 I2. -/
abbrev State.UnconfiguredIsClear (s : State) : Prop :=
  s.inited = false →
    s.en = false ∧ s.cfgErr = false ∧ s.nch = 0 ∧ s.cursor = 0 ∧ s.seq = 0 ∧ s.front = false ∧ s.frameOk = false

/-- 10_state.md R39 I3; and once initialised, CFG_ERR is `1 - EN` (41_host_port.md R131). -/
abbrev State.EnabledIsConfigured (s : State) : Prop :=
  (s.en = true → s.inited = true ∧ s.cfgErr = false) ∧ (s.cfgErr = true → s.inited = true ∧ s.en = false) ∧
    (s.inited = true → s.cfgErr = !s.en)

/-- 10_state.md R39 I4. -/
abbrev State.ChannelsLegal (s : State) : Prop :=
  s.inited = true →
    1 ≤ s.nch.toNat ∧ s.nch.toNat ≤ 16 ∧ ∀ i : Fin 16, i.val < s.nch.toNat → s.map[i].toNat < s.nch.toNat

/-- 10_state.md R39 I5. -/
abbrev State.SlotsPlausible (s : State) : Prop :=
  s.inited = true →
    ∀ i : Fin 16, s.cfg.isPulse s.live[i].toNat ∧ s.cfg.isPulse s.snap0[i].toNat ∧
      s.cfg.isPulse s.snap1[i].toNat

/-- ERR_CODE holds 0 to 8, and 0 exactly while HOST_ERR is clear (60_exceptions.md R160, R162). -/
abbrev State.ErrorRegisterLegal (s : State) : Prop :=
  s.errCode.toNat ≤ 8 ∧ (s.hostErr = false ↔ s.errCode = 0)

/-- In a frame without a glitch, the back bank and the live bank agree on the slots filled so far: what makes
a publication one whole frame (40_edge_decoder.md R114). -/
abbrev State.FrameMirrored (s : State) : Prop :=
  s.frameOk = true → ∀ i : Fin 16, i.val < s.cursor.toNat → (backBank s)[i] = s.live[i]

/-- The invariant of the model: a well-formed record (00_scope.md R7), 10_state.md R39 I1 to I5, and the model's
readings of 10_state.md R21 (widths), 60_exceptions.md R160 (codes) and 40_edge_decoder.md R114 (frames). -/
structure State.Inv (s : State) : Prop where
  cfg_wf : s.cfg.wf = true
  widths : s.WidthsHold
  cursor_le : s.CursorBounded
  unconfigured : s.UnconfiguredIsClear
  enabled : s.EnabledIsConfigured
  channels : s.ChannelsLegal
  slots : s.SlotsPlausible
  error_register : s.ErrorRegisterLegal
  mirrored : s.FrameMirrored

/-- Every slot is neutral and nothing has been published: what an INIT without a capture resource leaves, until
reset (41_host_port.md R132). -/
def State.NeutralForever (s : State) : Prop :=
  s.inited = true ∧ s.en = false ∧ s.cfgErr = true ∧ s.seq = 0 ∧
    s.live = Vector.replicate 16 (neutralTick s.cfg) ∧ s.snap0 = Vector.replicate 16 (neutralTick s.cfg) ∧
    s.snap1 = Vector.replicate 16 (neutralTick s.cfg)

/-- The elements of 10_state.md R21 to R32 and the record of configuration are the same: all of the decoder's state
but the host-port error registers. -/
def SameDecoder (s t : State) : Prop :=
  t.cfg = s.cfg ∧ t.lastRise = s.lastRise ∧ t.cursor = s.cursor ∧ t.nch = s.nch ∧ t.live = s.live ∧ t.map = s.map ∧
    t.snap0 = s.snap0 ∧ t.snap1 = s.snap1 ∧ t.front = s.front ∧ t.seq = s.seq ∧ t.frameOk = s.frameOk ∧
    t.en = s.en ∧ t.inited = s.inited ∧ t.cfgErr = s.cfgErr

/-- The error registers, the responses and the fault record are the same. -/
def SameHostSide (s t : State) : Prop :=
  t.hostErr = s.hostErr ∧ t.errCode = s.errCode ∧ t.responses = s.responses ∧ t.faultRecord = s.faultRecord

/-- What waits at the ports, the schedule and the count of draws are the same. -/
def SameEnvironment (s t : State) : Prop :=
  t.captureQueue = s.captureQueue ∧ t.hostQueue = s.hostQueue ∧ t.turns = s.turns ∧ t.draws = s.draws

/-- `s` with other contents in the three arrays that reset leaves unspecified (10_state.md R38). -/
def State.withArrays (s : State) (live : Bank) (map : ChannelMap) (snap0 snap1 : Bank) : State :=
  { s with live := live, map := map, snap0 := snap0, snap1 := snap1 }

/-- `s` with another back bank (10_state.md R26). -/
def State.withBackBank (s : State) (b : Bank) : State :=
  if s.front then { s with snap0 := b } else { s with snap1 := b }

/-- An outcome with a change made to its next state. -/
def mapNext (f : State → State) : Host.Outcome State Fault Refusal → Host.Outcome State Fault Refusal
  | .next t => .next (f t)
  | .fault r => .fault r
  | .refused r => .refused r

/-- `(c - last) mod 2^W` on natural numbers (40_edge_decoder.md R103): the ticks from `last` to `c`, modulo `2^W`. -/
def elapsed (width : Nat) (c last : Tick) : Nat := (c.toNat + 2 ^ width - last.toNat) % 2 ^ width

/-- The state after an OK response `v` that changes nothing else (30_encoding.md R81). -/
def okState (v : Word) (s : State) : State := { s with responses := s.responses ++ [⟨.ok, v⟩] }

/-- The state after a fault with cause `f` and code `code` that changes nothing else (60_exceptions.md R162, R174). -/
def errState (request : Word) (f : FaultCode) (code : BitVec 4) (s : State) : State :=
  { s with
    hostErr := true
    errCode := code
    faultRecord := s.faultRecord ++ [⟨request, f⟩]
    responses := s.responses ++ [⟨.err, BitVec.ofNat 32 code.toNat⟩] }

/-- A state in which a rising edge is accepted and its delta is well defined: the decoder is enabled, and the
timestamp and the anchor have `W` bits (40_edge_decoder.md R101 to R103). -/
def AcceptsRise (c : Tick) (s : State) : Prop :=
  s.en = true ∧ s.cfg.width ≤ 16 ∧ c.toNat < 2 ^ s.cfg.width ∧ s.lastRise.toNat < 2 ^ s.cfg.width

/-- A rising edge `d` ticks after the last accepted one (40_edge_decoder.md R116). -/
def riseAfter (d : Tick) (s : State) : Host.Outcome State Fault Refusal :=
  exec (.edge true (timeAfter s.cfg.width s.lastRise d.toNat)) s

/-- Rising edges with these deltas, one after another (40_edge_decoder.md R113). -/
def risesAfter : List Tick → State → Host.Outcome State Fault Refusal
  | [], s => .next s
  | d :: ds, s =>
    match riseAfter d s with
    | .next t => risesAfter ds t
    | .fault r => .fault r
    | .refused r => .refused r

/-- How many of the next `k` steps publish, told by SEQ (40_edge_decoder.md R108, 20_memory.md R60). -/
def publications : Nat → State → Nat
  | 0, _ => 0
  | k + 1, s =>
    match step s with
    | .next t => (if t.seq = s.seq then 0 else 1) + publications k t
    | .fault _ => 0
    | .refused _ => 0

/-- None of the next `k` turns is a reset. -/
def noResetWithin (k : Nat) (s : State) : Prop := ∀ t ∈ s.turns.take k, t.agent ≠ .resetPin

end Sys2Proof.Machine
end

