-- ==== Sys2Proof/Certificates/Slice0/Obligations.lean ====
section
/-! DEFINITION. The statements about the block, each formalising rules of spec/ as OBLIGATIONS.json lists them. -/

open Sys2Proof Sys2Proof.Machine

/-! ### Encoding (30_encoding.md) -/

/-- 30_encoding.md R71 to R77: decoding an encoded operation gives it back, on the port that carries it. -/
def Obligations.DecodeEncodeAgree : Prop :=
  ∀ i : Instr,
    (i.onHostPort = true → decodeHost (encode i) = .request i) ∧
    (∀ width : Nat, i.onHostPort = false → i.wf width = true → decodeCapture width (encode i) = some i)

/-- 30_encoding.md R71 to R77: a word that decodes is the encoding of what it decodes to, so no bit is ignored. -/
def Obligations.EncodeDecodeAgree : Prop :=
  (∀ (w : Word) (i : Instr), decodeHost w = .request i → encode i = w ∧ i.onHostPort = true) ∧
  (∀ (width : Nat) (w : Word) (i : Instr), decodeCapture width w = some i →
    encode i = w ∧ i.wf width = true ∧ i.onHostPort = false)

/-- 30_encoding.md R78: on the host port, OP 0x0 and 0xB to 0xF are IllegalOp, code 1; so is 0x1, which only the
capture port carries (R80), and nothing else is. -/
def Obligations.IllegalOpExactly : Prop :=
  codeOf .illegalOp = 1 ∧
  ∀ w : Word, decodeHost w = .faulty .illegalOp ↔
    ((w >>> 28).toNat = 0 ∨ (w >>> 28).toNat = 1 ∨ 11 ≤ (w >>> 28).toNat)

/-- 30_encoding.md R79: on the host port, a word with the OP of a host operation is ReservedBits exactly when it
differs from the operation's match value under its mask. -/
def Obligations.ReservedBitsExactly : Prop :=
  ∀ (w : Word) (i : Instr), i.onHostPort = true → w >>> 28 = rowMatch i >>> 28 →
    (decodeHost w = .faulty .reservedBits ↔ w &&& rowMask i ≠ rowMatch i)

/-- 30_encoding.md R73: match 0x1000_0000, mask 0xFFFE_0000, and no bit of DATA from `W` up. -/
def Obligations.CaptureWordSpellsEdge : Prop :=
  ∀ (width : Nat) (w : Word) (i : Instr),
    decodeCapture width w = some i ↔
      (w &&& 0xFFFE0000 = 0x10000000 ∧ (w.setWidth 16).toNat < 2 ^ width ∧
        i = .edge (w.getLsbD 16) (w.setWidth 16))

/-- Every word of 95_test_vectors.md section 2.4, and the word of HV14, read from the encodings of 30_encoding.md. -/
def Obligations.SampleWordsDecode : Prop :=
  decodeCapture 16 0x10012710 = some (.edge true 10000) ∧
  decodeCapture 16 0x10002710 = some (.edge false 10000) ∧
  decodeCapture 16 0x11012710 = none ∧
  decodeHost 0x20010008 = .request (.init true 8) ∧
  decodeHost 0x20000008 = .request (.init false 8) ∧
  decodeHost 0x43000000 = .request (.rdCh 3) ∧
  decodeHost 0x530007D0 = .request (.wrCh 3 2000) ∧
  decodeHost 0x82000000 = .request (.rdSnapCh 2) ∧
  decodeHost 0x00000000 = .faulty .illegalOp ∧
  decodeHost 0x3F000001 = .faulty .reservedBits

/-! ### The step: ports, schedule, reset -/

/-- 20_memory.md R56, R59: on the host's turn, the oldest pending delivery that decodes to an operation is run whole,
on the state with that turn and that delivery taken and what the turn presents queued behind. -/
def Obligations.HostStepRunsDecoded : Prop :=
  ∀ (s : State) (cs : List Word) (ds rest : List Delivery) (ts : List Turn) (d : Delivery) (w : Word) (i : Instr),
    s.cfg.wf = true → s.turns = ⟨.host, cs, ds⟩ :: ts → s.hostQueue ++ ds = d :: rest →
    wordOfDelivery d = some w → decodeHost w = .request i →
    step s = exec i { s with turns := ts, captureQueue := s.captureQueue ++ cs, hostQueue := rest }

/-- 20_memory.md R56, 60_exceptions.md R167: on the capture agent's turn, the oldest pending edge word that spells an
event is run whole. -/
def Obligations.CaptureStepRunsDecoded : Prop :=
  ∀ (s : State) (cs rest : List Word) (ds : List Delivery) (ts : List Turn) (w : Word) (i : Instr),
    s.cfg.wf = true → s.turns = ⟨.capture, cs, ds⟩ :: ts → s.captureQueue ++ cs = w :: rest →
    decodeCapture s.cfg.width w = some i →
    step s = exec i { s with turns := ts, captureQueue := rest, hostQueue := s.hostQueue ++ ds }

/-- 41_host_port.md R130 step 1, 60_exceptions.md R162: a host word that faults at decode responds ERR with its code,
1 or 2, sets HOST_ERR and ERR_CODE, is recorded, and changes nothing else. -/
def Obligations.HostDecodeFaultIsTaken : Prop :=
  ∀ (s : State) (cs : List Word) (ds rest : List Delivery) (ts : List Turn) (d : Delivery) (w : Word) (f : FaultCode),
    s.cfg.wf = true → s.turns = ⟨.host, cs, ds⟩ :: ts → s.hostQueue ++ ds = d :: rest →
    wordOfDelivery d = some w → decodeHost w = .faulty f →
    (f = .illegalOp ∨ f = .reservedBits) ∧
    step s = .next (errState w f (if f = .illegalOp then 1 else 2)
      { s with turns := ts, captureQueue := s.captureQueue ++ cs, hostQueue := rest })

/-- 00_scope.md R7: the well-formed records, and any other record is refused before any step. -/
def Obligations.IllFormedRecordRefused : Prop :=
  (∀ cfg : Config, cfg.wf = true ↔
    (1 ≤ cfg.width ∧ cfg.width ≤ 16 ∧ 0 ≤ cfg.lowBound ∧ cfg.lowBound < cfg.highBound ∧
      cfg.highBound ≤ cfg.syncBound ∧ cfg.syncBound < 2 ^ cfg.width ∧ cfg.lowBound < cfg.neutral ∧
      cfg.neutral < cfg.highBound ∧ ∀ i : Fin 16, cfg.mapCfg[i].toNat < 16)) ∧
  (∀ s : State, s.cfg.wf = false → step s = .refused .badConfig)

/-- The model's deduction (log entry 16, DEDUCED) from 20_memory.md R52 and R53: a delivery is a whole word exactly when
it is four bytes from lane 0, any other counts as the partial word that delivers no request, so the model refuses it and
takes no step; and a whole word is read back with lane 0 least significant. -/
def Obligations.PartialDeliveryRefused : Prop :=
  (∀ (s : State) (cs : List Word) (ds rest : List Delivery) (ts : List Turn) (d : Delivery),
    s.cfg.wf = true → s.turns = ⟨.host, cs, ds⟩ :: ts → s.hostQueue ++ ds = d :: rest →
    d.wf = false → step s = .refused .partialWord) ∧
  (∀ w : Word, (deliveryOf w).wf = true ∧ wordOfDelivery (deliveryOf w) = some w)

/-- 30_encoding.md R80: a capture word that is not a well-formed EDGE word spells no event; the model refuses it, with
no fault code. -/
def Obligations.MalformedCaptureWordRefused : Prop :=
  ∀ (s : State) (cs rest : List Word) (ds : List Delivery) (ts : List Turn) (w : Word),
    s.cfg.wf = true → s.turns = ⟨.capture, cs, ds⟩ :: ts → s.captureQueue ++ cs = w :: rest →
    (w &&& 0xFFFE0000 ≠ 0x10000000 ∨ 2 ^ s.cfg.width ≤ (w.setWidth 16).toNat) →
    step s = .refused .noEvent

/-- The model's choice (log entry 5): at the end of the schedule nothing happens, and a turn of an agent that has
nothing pending only passes. -/
def Obligations.IdleTurnPasses : Prop :=
  ∀ s : State, s.cfg.wf = true →
    (s.turns = [] → step s = .next s) ∧
    (∀ cs ds ts, s.turns = ⟨.host, cs, ds⟩ :: ts → s.hostQueue ++ ds = [] →
      step s = .next { s with turns := ts, captureQueue := s.captureQueue ++ cs, hostQueue := [] }) ∧
    (∀ cs ds ts, s.turns = ⟨.capture, cs, ds⟩ :: ts → s.captureQueue ++ cs = [] →
      step s = .next { s with turns := ts, captureQueue := [], hostQueue := s.hostQueue ++ ds })

/-- 70_reset_and_hazards.md R180: the reset step. Pending events and requests are discarded and no response is given,
every element with a reset value takes it, LAST_RISE takes some `W`-bit value, and the fault record stays. -/
def Obligations.ResetStepClears : Prop :=
  ∀ (s : State) (cs : List Word) (ds : List Delivery) (ts : List Turn),
    s.cfg.wf = true → s.turns = ⟨.resetPin, cs, ds⟩ :: ts →
    ∃ t, step s = .next t ∧
      t.captureQueue = [] ∧ t.hostQueue = [] ∧ t.responses.length ≤ s.responses.length ∧
      t.cursor = 0 ∧ t.nch = 0 ∧ t.front = false ∧ t.seq = 0 ∧ t.frameOk = false ∧ t.en = false ∧
      t.inited = false ∧ t.cfgErr = false ∧ t.hostErr = false ∧ t.errCode = 0 ∧
      t.lastRise.toNat < 2 ^ s.cfg.width ∧
      t.faultRecord = s.faultRecord

/-- 10_state.md R38: both columns of the table, the values after reset and the values after a successful INIT. -/
def Obligations.ResetAndInitValues : Prop :=
  (State.reset.cursor = 0 ∧ State.reset.nch = 0 ∧ State.reset.front = false ∧ State.reset.seq = 0 ∧
    State.reset.frameOk = false ∧ State.reset.en = false ∧ State.reset.inited = false ∧
    State.reset.cfgErr = false ∧ State.reset.hostErr = false ∧ State.reset.errCode = 0) ∧
  (∀ (s t : State) (capOk : Bool) (n : BitVec 16), exec (.init capOk n) s = .next t →
    t.faultRecord = s.faultRecord →
    t.lastRise = s.lastRise ∧ t.cursor.toNat = n.toNat ∧ t.nch.toNat = n.toNat ∧
    (∀ i : Fin 16, t.live[i] = BitVec.ofNat 16 s.cfg.neutral ∧ t.map[i] = s.cfg.mapCfg[i] ∧
      t.snap0[i] = BitVec.ofNat 16 s.cfg.neutral ∧ t.snap1[i] = BitVec.ofNat 16 s.cfg.neutral) ∧
    t.front = false ∧ t.seq = 0 ∧ t.frameOk = false ∧ t.en = capOk ∧ t.inited = true ∧ t.cfgErr = !capOk ∧
    t.hostErr = s.hostErr ∧ t.errCode = s.errCode)

/-- 70_reset_and_hazards.md R181: between reset and INIT, edges have no effect, the indexed reads fault
NotInitialised, RD_SEQ gives 0, RD_STATUS gives 0 or HOST_ERR with ERR_CODE, and WR_CH responds OK. -/
def Obligations.UnconfiguredBehaviour : Prop :=
  ∀ s : State, s.Inv → s.inited = false →
    (∀ (pol : Bool) (c : Tick), c.toNat < 2 ^ s.cfg.width → exec (.edge pol c) s = .next s) ∧
    (∀ i : Instr, i.isIndexedRead = true → exec i s = .next (errState (encode i) .notInitialised 3 s)) ∧
    exec .rdSeq s = .next (okState 0 s) ∧
    (∃ v : Word, exec .rdStatus s = .next (okState v s) ∧
      (s.hostErr = false → v = 0) ∧
      (s.hostErr = true → v.getLsbD 5 = true ∧ (v.toNat / 2 ^ 24) % 16 = s.errCode.toNat)) ∧
    (∀ idx v, exec (.wrCh idx v) s = .next (okState 0 s))

/-- Log entry 12: the word placed for the next step is the one the next step runs, on the state it was placed in. -/
def Obligations.PlacedWordRunsNext : Prop :=
  ∀ (s : State) (w : Nat) (i : Instr), s.cfg.wf = true → s.cfg.width = 16 →
    decodeTableWord 32 w = some i → step (s.withFetchWord 32 w) = exec i s

/-! ### EDGE (40_edge_decoder.md) -/

/-- 40_edge_decoder.md R101, R102, R117: an edge while `EN = 0`, and a falling edge, change nothing, LAST_RISE included. -/
def Obligations.GatedEdgeChangesNothing : Prop :=
  ∀ (s : State) (pol : Bool) (c : Tick), c.toNat < 2 ^ s.cfg.width →
    (s.en = false ∨ pol = false) → exec (.edge pol c) s = .next s

/-- 40_edge_decoder.md R116: if `t` ticks truly passed since LAST_RISE, the delta is `t` modulo `2^W`. -/
def Obligations.DeltaIsElapsedModulo : Prop :=
  ∀ (width t : Nat) (last : Tick), width ≤ 16 → last.toNat < 2 ^ width →
    delta width (BitVec.ofNat 16 ((last.toNat + t) % 2 ^ width)) last = BitVec.ofNat 16 (t % 2 ^ width)

/-- 40_edge_decoder.md R103: the delta of any two `W`-bit timestamps, as the spec writes it, and its range. -/
def Obligations.DeltaIsWrappedDifference : Prop :=
  ∀ (width : Nat) (c last : Tick), width ≤ 16 → c.toNat < 2 ^ width → last.toNat < 2 ^ width →
    (delta width c last).toNat = elapsed width c last ∧ (delta width c last).toNat < 2 ^ width

/-- 40_edge_decoder.md R104: the three classes are exactly these ranges, under 00_scope.md R7, and each delta is in
exactly one of them. -/
def Obligations.ClassesAreTheRanges : Prop :=
  ∀ (cfg : Config) (diff : Tick), cfg.wf = true →
    (classify cfg diff = .pulse ↔ cfg.isPulse diff.toNat) ∧
    (classify cfg diff = .sync ↔ cfg.isSync diff.toNat) ∧
    (classify cfg diff = .glitch ↔ cfg.isGlitch diff.toNat)

/-- 40_edge_decoder.md R105, R110: a pulse with `CURSOR < NCH` is written to the live slot and the back-bank entry at
CURSOR, CURSOR advances, LAST_RISE takes the timestamp, and nothing else changes. -/
def Obligations.PulseIsStored : Prop :=
  ∀ (s : State) (c : Tick), AcceptsRise c s → s.cfg.isPulse (elapsed s.cfg.width c s.lastRise) →
    s.cursor.toNat < s.nch.toNat → s.nch.toNat ≤ 16 →
    exec (.edge true c) s = .next
      (let v := BitVec.ofNat 16 (elapsed s.cfg.width c s.lastRise)
       { s with
         live := s.live.setIfInBounds s.cursor.toNat v
         snap0 := if s.front = true then s.snap0.setIfInBounds s.cursor.toNat v else s.snap0
         snap1 := if s.front = false then s.snap1.setIfInBounds s.cursor.toNat v else s.snap1
         cursor := BitVec.ofNat 5 (s.cursor.toNat + 1)
         lastRise := c })

/-- 40_edge_decoder.md R106: a pulse with `CURSOR = NCH` writes LAST_RISE and nothing else. -/
def Obligations.ExcessPulseIsDropped : Prop :=
  ∀ (s : State) (c : Tick), AcceptsRise c s → s.cfg.isPulse (elapsed s.cfg.width c s.lastRise) →
    s.cursor = s.nch → exec (.edge true c) s = .next { s with lastRise := c }

/-- 40_edge_decoder.md R107, R108: a sync opens a frame, and publishes exactly when FRAME_OK and `CURSOR = NCH` held;
no slot is written. -/
def Obligations.SyncOpensFrameAndPublishes : Prop :=
  ∀ (s : State) (c : Tick), AcceptsRise c s → s.cfg.wf = true → s.cfg.isSync (elapsed s.cfg.width c s.lastRise) →
    exec (.edge true c) s = .next
      (if s.frameOk = true ∧ s.cursor = s.nch then
        { s with cursor := 0, frameOk := true, lastRise := c, front := !s.front,
                 seq := BitVec.ofNat 32 ((s.seq.toNat + 1) % 2 ^ 32) }
      else { s with cursor := 0, frameOk := true, lastRise := c })

/-- 40_edge_decoder.md R109, R112: a glitch of either kind freezes the cursor at NCH and clears FRAME_OK; no slot is
written and nothing is published. -/
def Obligations.GlitchFreezesFrame : Prop :=
  ∀ (s : State) (c : Tick), AcceptsRise c s → s.cfg.wf = true → s.cfg.isGlitch (elapsed s.cfg.width c s.lastRise) →
    exec (.edge true c) s = .next { s with cursor := s.nch, frameOk := false, lastRise := c }

/-- 40_edge_decoder.md R111: every EDGE word that decodes is performed, with no fault and no response. -/
def Obligations.EdgePathNeverFaults : Prop :=
  ∀ (s : State) (w : Word) (i : Instr), s.Inv → decodeCapture s.cfg.width w = some i →
    ∃ t, exec i s = .next t ∧ SameHostSide s t

/-- 40_edge_decoder.md R100 (State written): the frame of EDGE. LAST_RISE, CURSOR, FRAME_OK, FRONT, SEQ, and the live
and back-bank entries at CURSOR may change; nothing else does. -/
def Obligations.EdgeFrame : Prop :=
  ∀ (s t : State) (pol : Bool) (c : Tick), exec (.edge pol c) s = .next t →
    SameHostSide s t ∧ SameEnvironment s t ∧
    t.cfg = s.cfg ∧ t.nch = s.nch ∧ t.map = s.map ∧ t.en = s.en ∧ t.inited = s.inited ∧ t.cfgErr = s.cfgErr ∧
    (if s.front = true then t.snap1 = s.snap1 else t.snap0 = s.snap0) ∧
    (∀ i : Fin 16, i.val ≠ s.cursor.toNat →
      t.live[i] = s.live[i] ∧ t.snap0[i] = s.snap0[i] ∧ t.snap1[i] = s.snap1[i]) ∧
    (t.lastRise = s.lastRise ∨ t.lastRise = c)

/-! ### The host port (41_host_port.md) -/

/-- 41_host_port.md R131: INIT, its three faults in their order, and all that a successful INIT writes. -/
def Obligations.InitWritesOrFaults : Prop :=
  ∀ (s : State) (capOk : Bool) (n : BitVec 16),
    (s.inited = true → exec (.init capOk n) s = .next (errState (encode (.init capOk n)) .reInit 4 s)) ∧
    (s.inited = false → (n.toNat < 1 ∨ 16 < n.toNat) →
      exec (.init capOk n) s = .next (errState (encode (.init capOk n)) .badChannelCount 5 s)) ∧
    (s.inited = false → 1 ≤ n.toNat → n.toNat ≤ 16 →
      (∃ i : Fin 16, i.val < n.toNat ∧ n.toNat ≤ s.cfg.mapCfg[i].toNat) →
      exec (.init capOk n) s = .next (errState (encode (.init capOk n)) .badChannelMap 6 s)) ∧
    (s.inited = false → 1 ≤ n.toNat → n.toNat ≤ 16 →
      (∀ i : Fin 16, i.val < n.toNat → s.cfg.mapCfg[i].toNat < n.toNat) →
      exec (.init capOk n) s = .next (okState 0
        { s with
          live := Vector.replicate 16 (BitVec.ofNat 16 s.cfg.neutral)
          snap0 := Vector.replicate 16 (BitVec.ofNat 16 s.cfg.neutral)
          snap1 := Vector.replicate 16 (BitVec.ofNat 16 s.cfg.neutral)
          map := s.cfg.mapCfg
          nch := BitVec.ofNat 5 n.toNat
          cursor := BitVec.ofNat 5 n.toNat
          frameOk := false
          front := false
          seq := 0
          inited := true
          en := capOk
          cfgErr := !capOk }))

/-- 41_host_port.md R132: an INIT without a capture resource succeeds and reports CFG_ERR; until reset, every step keeps
the store neutral, every in-range value read gives NEUTRAL and RD_SEQ gives 0. -/
def Obligations.NoCaptureResourceStaysNeutral : Prop :=
  (∀ (s t : State) (n : BitVec 16), exec (.init false n) s = .next t → t.faultRecord = s.faultRecord →
    t.NeutralForever ∧ t.responses = s.responses ++ [⟨.ok, 0⟩]) ∧
  (∀ s t : State, s.NeutralForever → noResetWithin 1 s → step s = .next t → t.NeutralForever) ∧
  (∀ s : State, s.NeutralForever →
    (∀ (pol : Bool) (c : Tick), c.toNat < 2 ^ s.cfg.width → exec (.edge pol c) s = .next s) ∧
    exec .rdSeq s = .next (okState 0 s) ∧
    (∃ v : Word, exec .rdStatus s = .next (okState v s) ∧ v.getLsbD 2 = true) ∧
    (∀ (idx : Index) (i : Instr), idx.toNat < s.nch.toNat →
      (i = .rdSlot idx ∨ i = .rdCh idx ∨ i = .rdSnap idx ∨ i = .rdSnapCh idx) →
      exec i s = .next (okState ((BitVec.ofNat 16 s.cfg.neutral).setWidth 32) s)))

/-- 41_host_port.md R133: RD_SLOT. -/
def Obligations.RdSlotReadsLiveSlot : Prop :=
  ∀ (s : State) (idx : Index),
    exec (.rdSlot idx) s = .next
      (if s.inited = false then errState (encode (.rdSlot idx)) .notInitialised 3 s
       else if s.nch.toNat ≤ idx.toNat then errState (encode (.rdSlot idx)) .slotIndexOutOfRange 7 s
       else okState (BitVec.ofNat 32 (s.live[idx.toNat]'idx.isLt).toNat) s)

/-- 41_host_port.md R134: RD_CH. -/
def Obligations.RdChReadsMappedLiveSlot : Prop :=
  ∀ (s : State) (idx : Index),
    exec (.rdCh idx) s = .next
      (if s.inited = false then errState (encode (.rdCh idx)) .notInitialised 3 s
       else if s.nch.toNat ≤ idx.toNat then errState (encode (.rdCh idx)) .logicalIndexOutOfRange 8 s
       else okState (BitVec.ofNat 32 (s.live[(s.map[idx.toNat]'idx.isLt).toNat]'(s.map[idx.toNat]'idx.isLt).isLt).toNat) s)

/-- 41_host_port.md R135: WR_CH responds OK with 0 and does nothing, in every state and for any operands. -/
def Obligations.WrChDoesNothing : Prop :=
  ∀ (s : State) (idx : Index) (v : BitVec 16), exec (.wrCh idx v) s = .next (okState 0 s)

/-- 41_host_port.md R136: RD_MAP. -/
def Obligations.RdMapReadsMap : Prop :=
  ∀ (s : State) (idx : Index),
    exec (.rdMap idx) s = .next
      (if s.inited = false then errState (encode (.rdMap idx)) .notInitialised 3 s
       else if s.nch.toNat ≤ idx.toNat then errState (encode (.rdMap idx)) .logicalIndexOutOfRange 8 s
       else okState (BitVec.ofNat 32 (s.map[idx.toNat]'idx.isLt).toNat) s)

/-- 41_host_port.md R137: RD_SNAP reads the front bank. -/
def Obligations.RdSnapReadsFrontBank : Prop :=
  ∀ (s : State) (idx : Index),
    exec (.rdSnap idx) s = .next
      (if s.inited = false then errState (encode (.rdSnap idx)) .notInitialised 3 s
       else if s.nch.toNat ≤ idx.toNat then errState (encode (.rdSnap idx)) .slotIndexOutOfRange 7 s
       else if s.front = true then okState (BitVec.ofNat 32 (s.snap1[idx.toNat]'idx.isLt).toNat) s
       else okState (BitVec.ofNat 32 (s.snap0[idx.toNat]'idx.isLt).toNat) s)

/-- 41_host_port.md R138: RD_SNAP_CH reads the front bank through the map. -/
def Obligations.RdSnapChReadsMappedFrontBank : Prop :=
  ∀ (s : State) (idx : Index),
    exec (.rdSnapCh idx) s = .next
      (if s.inited = false then errState (encode (.rdSnapCh idx)) .notInitialised 3 s
       else if s.nch.toNat ≤ idx.toNat then errState (encode (.rdSnapCh idx)) .logicalIndexOutOfRange 8 s
       else if s.front = true then
         okState (BitVec.ofNat 32 (s.snap1[(s.map[idx.toNat]'idx.isLt).toNat]'(s.map[idx.toNat]'idx.isLt).isLt).toNat) s
       else
         okState (BitVec.ofNat 32 (s.snap0[(s.map[idx.toNat]'idx.isLt).toNat]'(s.map[idx.toNat]'idx.isLt).isLt).toNat) s)

/-- 41_host_port.md R139: RD_SEQ responds SEQ, in every state. -/
def Obligations.RdSeqReadsSeq : Prop :=
  ∀ s : State, exec .rdSeq s = .next (okState s.seq s)

/-- 41_host_port.md R140, 10_state.md R36: RD_STATUS responds the status view, field by field, its unlisted bits 0. -/
def Obligations.RdStatusLayout : Prop :=
  ∀ s : State, ∃ v : Word, exec .rdStatus s = .next (okState v s) ∧
    v.getLsbD 0 = s.en ∧ v.getLsbD 1 = s.inited ∧ v.getLsbD 2 = s.cfgErr ∧ v.getLsbD 3 = s.front ∧
    v.getLsbD 4 = s.frameOk ∧ v.getLsbD 5 = s.hostErr ∧ v.extractLsb' 6 2 = 0 ∧
    v.extractLsb' 8 5 = s.cursor ∧ v.extractLsb' 13 3 = 0 ∧ v.extractLsb' 16 5 = s.nch ∧
    v.extractLsb' 21 3 = 0 ∧ v.extractLsb' 24 4 = s.errCode ∧ v.extractLsb' 28 4 = 0

/-- 30_encoding.md R81, 60_exceptions.md R162: every host request is carried out and gets exactly one response; on ERR
the response is the code, the request is recorded, and nothing but the host side changes. -/
def Obligations.OneResponsePerRequest : Prop :=
  ∀ (s : State) (i : Instr), i.onHostPort = true →
    ∃ t, exec i s = .next t ∧ SameEnvironment s t ∧
      ((∃ v, t.responses = s.responses ++ [⟨.ok, v⟩] ∧ t.hostErr = s.hostErr ∧ t.errCode = s.errCode ∧
          t.faultRecord = s.faultRecord) ∨
       (∃ f code, t = errState (encode i) f code s ∧ 3 ≤ code.toNat ∧ code.toNat ≤ 8))

/-- 60_exceptions.md R168: no host request but INIT writes the decoder's state, and INIT writes it only while
`INITED = 0`. -/
def Obligations.HostFrame : Prop :=
  ∀ (s t : State) (i : Instr), i.onHostPort = true → exec i s = .next t →
    (s.inited = true ∨ ∀ capOk n, i ≠ .init capOk n) → SameDecoder s t ∧ SameEnvironment s t

/-- 20_memory.md R55: two identical requests other than INIT, with nothing between them, get the same response. -/
def Obligations.RequestsAreIdempotent : Prop :=
  ∀ (s t u : State) (i : Instr), i.onHostPort = true → (∀ capOk n, i ≠ .init capOk n) →
    exec i s = .next t → exec i t = .next u →
    ∃ r, t.responses = s.responses ++ [r] ∧ u.responses = t.responses ++ [r]

/-- 10_state.md R37: no host request can tell what LAST_RISE or the back bank holds. -/
def Obligations.HostCannotReadHiddenState : Prop :=
  ∀ (s : State) (i : Instr), i.onHostPort = true →
    (∀ x : Tick, exec i { s with lastRise := x } = mapNext (fun t => { t with lastRise := x }) (exec i s)) ∧
    (∀ b : Bank, (∀ capOk n, i ≠ .init capOk n) →
      exec i (s.withBackBank b) = mapNext (fun t => t.withBackBank b) (exec i s))

/-- 70_reset_and_hazards.md R181, 10_state.md R37: while `INITED = 0`, no operation shows the contents of L, MAP and
SNAP: each runs alike whatever they hold, and a successful INIT leaves the same state. -/
def Obligations.ResetArraysUnobservable : Prop :=
  ∀ (s : State) (i : Instr) (live : Bank) (map : ChannelMap) (snap0 snap1 : Bank),
    s.inited = false → s.en = false →
    ((∃ capOk n, i = .init capOk n) ∧ exec i (s.withArrays live map snap0 snap1) = exec i s) ∨
    exec i (s.withArrays live map snap0 snap1) =
      mapNext (fun t => t.withArrays live map snap0 snap1) (exec i s)

/-- 41_host_port.md R141: after INIT, RD_CH of every in-range channel responds OK with a value strictly between the
bounds, the live value of its mapped slot. -/
def Obligations.RdChIsTotalAccessor : Prop :=
  ∀ (s : State) (idx : Index), s.Inv → s.inited = true → idx.toNat < s.nch.toNat →
    ∃ v : Word, exec (.rdCh idx) s = .next (okState v s) ∧
      s.cfg.lowBound < v.toNat ∧ v.toNat < s.cfg.highBound ∧
      ∃ slot : Fin 16, slot.val < s.nch.toNat ∧ slot.val = (s.map[idx.toNat]'idx.isLt).toNat ∧
        v.toNat = (s.live[slot]).toNat

/-! ### Whole-machine rules -/

/-- 10_state.md R38, R39: the state after reset meets the invariant. -/
def Obligations.ResetMeetsInvariant : Prop := State.reset.Inv

/-- 10_state.md R39: every step keeps the invariant, from every state that meets it. -/
def Obligations.StepKeepsInvariant : Prop :=
  ∀ s t : State, s.Inv → step s = .next t → t.Inv

/-- 10_state.md R39 I1, I4: from a state that meets the invariant, no step faults, and a step is refused only for a
word that spells no event or a delivery that is no request. -/
def Obligations.InvariantRulesOutFaults : Prop :=
  ∀ s : State, s.Inv →
    (∃ t, step s = .next t) ∨
    (step s = .refused .noEvent ∧ ∃ cs ds ts w rest, s.turns = ⟨.capture, cs, ds⟩ :: ts ∧
      s.captureQueue ++ cs = w :: rest ∧ decodeCapture s.cfg.width w = none) ∨
    (step s = .refused .partialWord ∧ ∃ cs ds ts d rest, s.turns = ⟨.host, cs, ds⟩ :: ts ∧
      s.hostQueue ++ ds = d :: rest ∧ d.wf = false)

/-- 10_state.md R40, 70_reset_and_hazards.md R180: no step removes an entry of the fault record, reset included. -/
def Obligations.FaultRecordOnlyGrows : Prop :=
  ∀ s t : State, step s = .next t →
    t.faultRecord = s.faultRecord ∨ ∃ e, t.faultRecord = s.faultRecord ++ [e]

/-- 10_state.md R33, R34: HOST_ERR and ERR_CODE change only at a fault, which sets HOST_ERR and writes the code of the
entry it records, and at reset. -/
def Obligations.ErrorRegistersTellLastFault : Prop :=
  ∀ s t : State, noResetWithin 1 s → step s = .next t →
    (t.hostErr = s.hostErr ∧ t.errCode = s.errCode ∧ t.faultRecord = s.faultRecord) ∨
    (t.hostErr = true ∧ ∃ e, t.faultRecord = s.faultRecord ++ [e] ∧ t.errCode = codeOf e.code)

/-- 20_memory.md R62: no step changes the configuration record. -/
def Obligations.ConfigurationNeverChanges : Prop :=
  ∀ s t : State, step s = .next t → t.cfg = s.cfg

/-- 10_state.md R24: after INIT and short of reset, a live slot changes only when a plausible pulse is stored at
CURSOR, which was below NCH. -/
def Obligations.LiveSlotsChangeOnlyByPulse : Prop :=
  ∀ (s t : State) (i : Fin 16), s.inited = true → s.cfg.wf = true → noResetWithin 1 s → step s = .next t →
    t.live[i] ≠ s.live[i] →
    i.val = s.cursor.toNat ∧ s.cursor.toNat < s.nch.toNat ∧ t.cursor.toNat = s.cursor.toNat + 1 ∧
      s.cfg.isPulse (t.live[i]).toNat ∧ t.live[i] = delta s.cfg.width t.lastRise s.lastRise

/-- 40_edge_decoder.md R114: at every publication the new front bank equals the live bank on all `NCH` slots, and SEQ
advances by one. -/
def Obligations.PublicationIsOneFrame : Prop :=
  ∀ s t : State, s.Inv → s.inited = true → noResetWithin 1 s → step s = .next t →
    (t.seq ≠ s.seq ∨ t.front ≠ s.front) →
    t.seq = s.seq + 1 ∧ t.front = !s.front ∧ t.live = s.live ∧
      ∀ i : Fin 16, i.val < s.nch.toNat → (frontBank t)[i] = t.live[i]

/-- 40_edge_decoder.md R113, first part: a sync, `k` pulses and a sync fill the first `min(k, NCH)` slots in order, drop
the rest, leave the other slots, and the closing sync publishes exactly when `k >= NCH`. -/
def Obligations.FrameLaw : Prop :=
  ∀ (s : State) (d0 d1 : Tick) (ps : List Tick), s.Inv → s.en = true →
    d0.toNat < 2 ^ s.cfg.width → d1.toNat < 2 ^ s.cfg.width → s.cfg.isSync d0.toNat → s.cfg.isSync d1.toNat →
    (∀ p ∈ ps, s.cfg.isPulse p.toNat) →
    ∃ u t, risesAfter (d0 :: ps) s = .next u ∧ risesAfter [d1] u = .next t ∧
      (∀ i : Fin 16, i.val < min ps.length s.nch.toNat → some t.live[i] = ps[i.val]?) ∧
      (∀ i : Fin 16, min ps.length s.nch.toNat ≤ i.val → t.live[i] = s.live[i]) ∧
      t.cursor = 0 ∧ t.frameOk = true ∧
      (ps.length < s.nch.toNat → t.seq = u.seq ∧ t.front = u.front) ∧
      (s.nch.toNat ≤ ps.length → t.seq = u.seq + 1 ∧ t.front = !u.front ∧
        ∀ i : Fin 16, i.val < s.nch.toNat → some (frontBank t)[i] = ps[i.val]?)

/-- 40_edge_decoder.md R113, second part: if after `j` pulses a glitch comes, the slots filled keep their new values,
the others their old ones whatever follows short of a sync, and the closing sync does not publish. -/
def Obligations.GlitchedFrameLaw : Prop :=
  ∀ (s : State) (d0 g d1 : Tick) (ps qs : List Tick), s.Inv → s.en = true →
    d0.toNat < 2 ^ s.cfg.width → d1.toNat < 2 ^ s.cfg.width → s.cfg.isSync d0.toNat → s.cfg.isSync d1.toNat →
    s.cfg.isGlitch g.toNat → (∀ p ∈ ps, s.cfg.isPulse p.toNat) → (∀ q ∈ qs, ¬ s.cfg.isSync q.toNat) →
    ∃ u t, risesAfter (d0 :: ps ++ g :: qs) s = .next u ∧ risesAfter [d1] u = .next t ∧
      (∀ i : Fin 16, i.val < min ps.length s.nch.toNat → some t.live[i] = ps[i.val]?) ∧
      (∀ i : Fin 16, min ps.length s.nch.toNat ≤ i.val → t.live[i] = s.live[i]) ∧
      t.cursor = 0 ∧ t.frameOk = true ∧ t.seq = u.seq ∧ t.front = u.front

/-- 40_edge_decoder.md R115: from the state INIT leaves, no run of rising edges short of a sync writes a slot or
publishes, whatever LAST_RISE held. -/
def Obligations.NothingStoredBeforeFirstSync : Prop :=
  ∀ (s : State) (ds : List Tick), s.Inv → s.en = true → s.cursor = s.nch → s.frameOk = false →
    (∀ d ∈ ds, ¬ s.cfg.isSync d.toNat) →
    ∃ t, risesAfter ds s = .next t ∧ t = { s with lastRise := t.lastRise }

/-- 20_memory.md R60, R61: if SEQ is equal at both ends of a run without reset, and fewer than `2^32` publications fell in
it, then none did, and every state of the run has the same front bank. -/
def Obligations.EqualSequenceMeansOneFrame : Prop :=
  ∀ (k : Nat) (s t : State), s.inited = true → noResetWithin k s →
    Host.Core.run Sys2Proof.core k s = .next t → publications k s < 2 ^ 32 → t.seq = s.seq →
    publications k s = 0 ∧
      ∀ (j : Nat) (u : State), j ≤ k → Host.Core.run Sys2Proof.core j s = .next u →
        u.front = s.front ∧ frontBank u = frontBank s

/-- 30_encoding.md R84: what RISE_AFTER, FALL_AFTER and READ_FRAME expand to, and the time cursor they leave. -/
def Obligations.PseudoOperationsExpand : Prop :=
  (∀ (width : Nat) (time : Tick) (d : Nat), width ≤ 16 →
    ∃ c : Tick, c.toNat = (time.toNat + d) % 2 ^ width ∧
      assembleLine width (some time) (.riseAfter d) = some (some c, [captureTurn (encode (.edge true c))]) ∧
      assembleLine width (some time) (.fallAfter d) = some (some time, [captureTurn (encode (.edge false c))])) ∧
  (∀ (width : Nat) (c : Tick) (time : Option Tick),
    assembleLine width time (.edge c true) = some (some c, [captureTurn (encode (.edge true c))])) ∧
  (∀ (width d : Nat), assembleLine width none (.riseAfter d) = none) ∧
  (∀ (width k : Nat) (time : Option Tick), k ≤ 16 →
    ∃ ts, assembleLine width time (.readFrame k) = some (time, ts) ∧ ts.length = k + 2 ∧
      ts[0]? = some (hostTurn (encode .rdSeq)) ∧ ts[k + 1]? = some (hostTurn (encode .rdSeq)) ∧
      ∀ i : Fin 16, i.val < k → ts[i.val + 1]? = some (hostTurn (encode (.rdSnap (BitVec.ofFin i)))))
end

