-- ==== Sys2Proof/Laws/Encoding.lean ====
section
/-! SUPPORT. The bits and the fields of an operation word put together from its fields (30_encoding.md R71). -/

namespace Sys2Proof

/-- Bit by bit: DATA, F, RSV (0), IDX, OP. -/
theorem operationWord_bit (op : BitVec 4) (idx : Index) (f : Bool) (data : BitVec 16) (i : Nat) :
    (operationWord op idx f data).getLsbD i =
      if i < 16 then data.getLsbD i
      else if i = 16 then f
      else if i < 24 then false
      else if i < 28 then idx.getLsbD (i - 24)
      else op.getLsbD (i - 28) := by
  change BitVec.getLsbD (w := 4 + 4 + 7 + 1 + 16)
    (op ++ idx ++ (0 : BitVec 7) ++ BitVec.ofBool f ++ data) i = _
  simp only [BitVec.getLsbD_append]
  by_cases h16 : i < 16
  · simp [h16]
  · by_cases he : i = 16
    · simp [he]
    · have h1 : ¬ i - 16 < 1 := by omega
      by_cases h24 : i < 24
      · have h2 : i - 16 - 1 < 7 := by omega
        simp [h16, he, h1, h24, h2]
      · have h2 : ¬ i - 16 - 1 < 7 := by omega
        have e : i - 16 - 1 - 7 = i - 24 := by omega
        by_cases h28 : i < 28
        · have h3 : i - 24 < 4 := by omega
          simp [h16, he, h1, h24, h2, e, h28, h3]
        · have h3 : ¬ i - 24 < 4 := by omega
          have e' : i - 24 - 4 = i - 28 := by omega
          simp [h16, he, h1, h24, h2, e, h28, h3, e']

@[simp] theorem opField_operationWord (op : BitVec 4) (idx : Index) (f : Bool) (data : BitVec 16) :
    opField (operationWord op idx f data) = op := by
  apply BitVec.eq_of_getLsbD_eq
  intro i hi
  rw [opField, BitVec.getLsbD_extractLsb', operationWord_bit]
  simp [hi, show ¬ 28 + i < 16 by omega, show ¬ 28 + i = 16 by omega, show ¬ 28 + i < 24 by omega]

@[simp] theorem idxField_operationWord (op : BitVec 4) (idx : Index) (f : Bool) (data : BitVec 16) :
    idxField (operationWord op idx f data) = idx := by
  apply BitVec.eq_of_getLsbD_eq
  intro i hi
  rw [idxField, BitVec.getLsbD_extractLsb', operationWord_bit]
  simp [hi, show ¬ 24 + i < 16 by omega, show ¬ 24 + i = 16 by omega, show 24 + i < 28 by omega]

@[simp] theorem rsvField_operationWord (op : BitVec 4) (idx : Index) (f : Bool) (data : BitVec 16) :
    rsvField (operationWord op idx f data) = 0 := by
  apply BitVec.eq_of_getLsbD_eq
  intro i hi
  rw [rsvField, BitVec.getLsbD_extractLsb', operationWord_bit]
  simp [hi, show ¬ 17 + i < 16 by omega, show ¬ 17 + i = 16 by omega, show 17 + i < 24 by omega]

@[simp] theorem flagField_operationWord (op : BitVec 4) (idx : Index) (f : Bool) (data : BitVec 16) :
    flagField (operationWord op idx f data) = f := by
  rw [flagField, operationWord_bit]
  simp

@[simp] theorem dataField_operationWord (op : BitVec 4) (idx : Index) (f : Bool) (data : BitVec 16) :
    dataField (operationWord op idx f data) = data := by
  apply BitVec.eq_of_getLsbD_eq
  intro i hi
  rw [dataField, BitVec.getLsbD_extractLsb', operationWord_bit]
  simp [hi]

/-- Two words with the same fields are the same word: the five fields are all of the word. -/
theorem word_eq_operationWord (w : Word) (h : rsvField w = 0) :
    operationWord (opField w) (idxField w) (flagField w) (dataField w) = w := by
  apply BitVec.eq_of_getLsbD_eq
  intro i hi
  rw [operationWord_bit]
  by_cases h16 : i < 16
  · simp [h16, dataField]
  · by_cases he : i = 16
    · simp [he, flagField]
    · by_cases h24 : i < 24
      · have hb : (rsvField w).getLsbD (i - 17) = w.getLsbD i := by
          simp [rsvField, show i - 17 < 7 by omega, show 17 + (i - 17) = i by omega]
        simp [h16, he, h24, ← hb, h]
      · by_cases h28 : i < 28
        · simp [h16, he, h24, h28, idxField, show i - 24 < 4 by omega,
            show 24 + (i - 24) = i by omega]
        · simp [h16, he, h24, h28, opField, show i - 28 < 4 by omega,
            show 28 + (i - 28) = i by omega]

/-- A host word with a legal OP is a request exactly when its fixed bits are right (30_encoding.md R79). -/
@[simp] theorem requestIf_request (b : Bool) (i j : Instr) : requestIf b i = .request j ↔ b = true ∧ i = j := by
  cases b <;> simp [requestIf]

@[simp] theorem requestIf_faulty (b : Bool) (i : Instr) (f : FaultCode) :
    requestIf b i = .faulty f ↔ b = false ∧ f = .reservedBits := by
  cases b <;> simp [requestIf, eq_comm]

/-- OP as a number is the word's top four bits. -/
theorem opField_toNat (w : Word) : (opField w).toNat = (w >>> 28).toNat := by
  simp [opField, BitVec.extractLsb'_toNat]
  omega

end Sys2Proof
end

