-- ==== Sys2Proof/Laws/State.lean ====
section
/-! SUPPORT. What each update of State leaves in each field: one lemma per field and update, so that no proof
unfolds a record update. -/

namespace Sys2Proof.Machine

variable (s : State)


/-! ### respond -/

@[simp] theorem respond_cfg (v : Word) : (respond v s).cfg = s.cfg := rfl
@[simp] theorem respond_lastRise (v : Word) : (respond v s).lastRise = s.lastRise := rfl
@[simp] theorem respond_cursor (v : Word) : (respond v s).cursor = s.cursor := rfl
@[simp] theorem respond_nch (v : Word) : (respond v s).nch = s.nch := rfl
@[simp] theorem respond_live (v : Word) : (respond v s).live = s.live := rfl
@[simp] theorem respond_map (v : Word) : (respond v s).map = s.map := rfl
@[simp] theorem respond_snap0 (v : Word) : (respond v s).snap0 = s.snap0 := rfl
@[simp] theorem respond_snap1 (v : Word) : (respond v s).snap1 = s.snap1 := rfl
@[simp] theorem respond_front (v : Word) : (respond v s).front = s.front := rfl
@[simp] theorem respond_seq (v : Word) : (respond v s).seq = s.seq := rfl
@[simp] theorem respond_frameOk (v : Word) : (respond v s).frameOk = s.frameOk := rfl
@[simp] theorem respond_en (v : Word) : (respond v s).en = s.en := rfl
@[simp] theorem respond_inited (v : Word) : (respond v s).inited = s.inited := rfl
@[simp] theorem respond_cfgErr (v : Word) : (respond v s).cfgErr = s.cfgErr := rfl
@[simp] theorem respond_hostErr (v : Word) : (respond v s).hostErr = s.hostErr := rfl
@[simp] theorem respond_errCode (v : Word) : (respond v s).errCode = s.errCode := rfl
@[simp] theorem respond_captureQueue (v : Word) : (respond v s).captureQueue = s.captureQueue := rfl
@[simp] theorem respond_hostQueue (v : Word) : (respond v s).hostQueue = s.hostQueue := rfl
@[simp] theorem respond_responses (v : Word) : (respond v s).responses = s.responses ++ [⟨.ok, v⟩] := rfl
@[simp] theorem respond_faultRecord (v : Word) : (respond v s).faultRecord = s.faultRecord := rfl
@[simp] theorem respond_turns (v : Word) : (respond v s).turns = s.turns := rfl
@[simp] theorem respond_draws (v : Word) : (respond v s).draws = s.draws := rfl

/-! ### raiseFault -/

@[simp] theorem raiseFault_cfg (w : Word) (f : FaultCode) : (raiseFault w f s).cfg = s.cfg := rfl
@[simp] theorem raiseFault_lastRise (w : Word) (f : FaultCode) : (raiseFault w f s).lastRise = s.lastRise := rfl
@[simp] theorem raiseFault_cursor (w : Word) (f : FaultCode) : (raiseFault w f s).cursor = s.cursor := rfl
@[simp] theorem raiseFault_nch (w : Word) (f : FaultCode) : (raiseFault w f s).nch = s.nch := rfl
@[simp] theorem raiseFault_live (w : Word) (f : FaultCode) : (raiseFault w f s).live = s.live := rfl
@[simp] theorem raiseFault_map (w : Word) (f : FaultCode) : (raiseFault w f s).map = s.map := rfl
@[simp] theorem raiseFault_snap0 (w : Word) (f : FaultCode) : (raiseFault w f s).snap0 = s.snap0 := rfl
@[simp] theorem raiseFault_snap1 (w : Word) (f : FaultCode) : (raiseFault w f s).snap1 = s.snap1 := rfl
@[simp] theorem raiseFault_front (w : Word) (f : FaultCode) : (raiseFault w f s).front = s.front := rfl
@[simp] theorem raiseFault_seq (w : Word) (f : FaultCode) : (raiseFault w f s).seq = s.seq := rfl
@[simp] theorem raiseFault_frameOk (w : Word) (f : FaultCode) : (raiseFault w f s).frameOk = s.frameOk := rfl
@[simp] theorem raiseFault_en (w : Word) (f : FaultCode) : (raiseFault w f s).en = s.en := rfl
@[simp] theorem raiseFault_inited (w : Word) (f : FaultCode) : (raiseFault w f s).inited = s.inited := rfl
@[simp] theorem raiseFault_cfgErr (w : Word) (f : FaultCode) : (raiseFault w f s).cfgErr = s.cfgErr := rfl
@[simp] theorem raiseFault_hostErr (w : Word) (f : FaultCode) : (raiseFault w f s).hostErr = true := rfl
@[simp] theorem raiseFault_errCode (w : Word) (f : FaultCode) : (raiseFault w f s).errCode = codeOf f := rfl
@[simp] theorem raiseFault_captureQueue (w : Word) (f : FaultCode) : (raiseFault w f s).captureQueue = s.captureQueue := rfl
@[simp] theorem raiseFault_hostQueue (w : Word) (f : FaultCode) : (raiseFault w f s).hostQueue = s.hostQueue := rfl
@[simp] theorem raiseFault_responses (w : Word) (f : FaultCode) : (raiseFault w f s).responses = s.responses ++ [⟨.err, zext32 (codeOf f)⟩] := rfl
@[simp] theorem raiseFault_faultRecord (w : Word) (f : FaultCode) : (raiseFault w f s).faultRecord = s.faultRecord ++ [⟨w, f⟩] := rfl
@[simp] theorem raiseFault_turns (w : Word) (f : FaultCode) : (raiseFault w f s).turns = s.turns := rfl
@[simp] theorem raiseFault_draws (w : Word) (f : FaultCode) : (raiseFault w f s).draws = s.draws := rfl

/-! ### assertReset -/

@[simp] theorem assertReset_cfg : (assertReset s).cfg = s.cfg := rfl
@[simp] theorem assertReset_lastRise : (assertReset s).lastRise = truncTick s.cfg.width (Config.lastRiseDraw s.draws) := rfl
@[simp] theorem assertReset_cursor : (assertReset s).cursor = 0 := rfl
@[simp] theorem assertReset_nch : (assertReset s).nch = 0 := rfl
@[simp] theorem assertReset_live : (assertReset s).live = bankOf fun i => truncTick s.cfg.width (Config.liveDraw s.draws i) := rfl
@[simp] theorem assertReset_map : (assertReset s).map = mapOf fun i => Config.mapDraw s.draws i := rfl
@[simp] theorem assertReset_snap0 : (assertReset s).snap0 = bankOf fun i => truncTick s.cfg.width (Config.snapDraw s.draws 0 i) := rfl
@[simp] theorem assertReset_snap1 : (assertReset s).snap1 = bankOf fun i => truncTick s.cfg.width (Config.snapDraw s.draws 1 i) := rfl
@[simp] theorem assertReset_front : (assertReset s).front = false := rfl
@[simp] theorem assertReset_seq : (assertReset s).seq = 0 := rfl
@[simp] theorem assertReset_frameOk : (assertReset s).frameOk = false := rfl
@[simp] theorem assertReset_en : (assertReset s).en = false := rfl
@[simp] theorem assertReset_inited : (assertReset s).inited = false := rfl
@[simp] theorem assertReset_cfgErr : (assertReset s).cfgErr = false := rfl
@[simp] theorem assertReset_hostErr : (assertReset s).hostErr = false := rfl
@[simp] theorem assertReset_errCode : (assertReset s).errCode = 0 := rfl
@[simp] theorem assertReset_captureQueue : (assertReset s).captureQueue = [] := rfl
@[simp] theorem assertReset_hostQueue : (assertReset s).hostQueue = [] := rfl
@[simp] theorem assertReset_responses : (assertReset s).responses = s.responses := rfl
@[simp] theorem assertReset_faultRecord : (assertReset s).faultRecord = s.faultRecord := rfl
@[simp] theorem assertReset_turns : (assertReset s).turns = s.turns := rfl
@[simp] theorem assertReset_draws : (assertReset s).draws = s.draws + 1 := rfl

/-! ### arrive -/

@[simp] theorem arrive_cfg (t : Turn) : (arrive t s).cfg = s.cfg := rfl
@[simp] theorem arrive_lastRise (t : Turn) : (arrive t s).lastRise = s.lastRise := rfl
@[simp] theorem arrive_cursor (t : Turn) : (arrive t s).cursor = s.cursor := rfl
@[simp] theorem arrive_nch (t : Turn) : (arrive t s).nch = s.nch := rfl
@[simp] theorem arrive_live (t : Turn) : (arrive t s).live = s.live := rfl
@[simp] theorem arrive_map (t : Turn) : (arrive t s).map = s.map := rfl
@[simp] theorem arrive_snap0 (t : Turn) : (arrive t s).snap0 = s.snap0 := rfl
@[simp] theorem arrive_snap1 (t : Turn) : (arrive t s).snap1 = s.snap1 := rfl
@[simp] theorem arrive_front (t : Turn) : (arrive t s).front = s.front := rfl
@[simp] theorem arrive_seq (t : Turn) : (arrive t s).seq = s.seq := rfl
@[simp] theorem arrive_frameOk (t : Turn) : (arrive t s).frameOk = s.frameOk := rfl
@[simp] theorem arrive_en (t : Turn) : (arrive t s).en = s.en := rfl
@[simp] theorem arrive_inited (t : Turn) : (arrive t s).inited = s.inited := rfl
@[simp] theorem arrive_cfgErr (t : Turn) : (arrive t s).cfgErr = s.cfgErr := rfl
@[simp] theorem arrive_hostErr (t : Turn) : (arrive t s).hostErr = s.hostErr := rfl
@[simp] theorem arrive_errCode (t : Turn) : (arrive t s).errCode = s.errCode := rfl
@[simp] theorem arrive_captureQueue (t : Turn) : (arrive t s).captureQueue = s.captureQueue ++ t.captured := rfl
@[simp] theorem arrive_hostQueue (t : Turn) : (arrive t s).hostQueue = s.hostQueue ++ t.requested := rfl
@[simp] theorem arrive_responses (t : Turn) : (arrive t s).responses = s.responses := rfl
@[simp] theorem arrive_faultRecord (t : Turn) : (arrive t s).faultRecord = s.faultRecord := rfl
@[simp] theorem arrive_turns (t : Turn) : (arrive t s).turns = s.turns := rfl
@[simp] theorem arrive_draws (t : Turn) : (arrive t s).draws = s.draws := rfl

/-! ### anchor -/

@[simp] theorem anchor_cfg (c : Tick) : (anchor c s).cfg = s.cfg := rfl
@[simp] theorem anchor_lastRise (c : Tick) : (anchor c s).lastRise = c := rfl
@[simp] theorem anchor_cursor (c : Tick) : (anchor c s).cursor = s.cursor := rfl
@[simp] theorem anchor_nch (c : Tick) : (anchor c s).nch = s.nch := rfl
@[simp] theorem anchor_live (c : Tick) : (anchor c s).live = s.live := rfl
@[simp] theorem anchor_map (c : Tick) : (anchor c s).map = s.map := rfl
@[simp] theorem anchor_snap0 (c : Tick) : (anchor c s).snap0 = s.snap0 := rfl
@[simp] theorem anchor_snap1 (c : Tick) : (anchor c s).snap1 = s.snap1 := rfl
@[simp] theorem anchor_front (c : Tick) : (anchor c s).front = s.front := rfl
@[simp] theorem anchor_seq (c : Tick) : (anchor c s).seq = s.seq := rfl
@[simp] theorem anchor_frameOk (c : Tick) : (anchor c s).frameOk = s.frameOk := rfl
@[simp] theorem anchor_en (c : Tick) : (anchor c s).en = s.en := rfl
@[simp] theorem anchor_inited (c : Tick) : (anchor c s).inited = s.inited := rfl
@[simp] theorem anchor_cfgErr (c : Tick) : (anchor c s).cfgErr = s.cfgErr := rfl
@[simp] theorem anchor_hostErr (c : Tick) : (anchor c s).hostErr = s.hostErr := rfl
@[simp] theorem anchor_errCode (c : Tick) : (anchor c s).errCode = s.errCode := rfl
@[simp] theorem anchor_captureQueue (c : Tick) : (anchor c s).captureQueue = s.captureQueue := rfl
@[simp] theorem anchor_hostQueue (c : Tick) : (anchor c s).hostQueue = s.hostQueue := rfl
@[simp] theorem anchor_responses (c : Tick) : (anchor c s).responses = s.responses := rfl
@[simp] theorem anchor_faultRecord (c : Tick) : (anchor c s).faultRecord = s.faultRecord := rfl
@[simp] theorem anchor_turns (c : Tick) : (anchor c s).turns = s.turns := rfl
@[simp] theorem anchor_draws (c : Tick) : (anchor c s).draws = s.draws := rfl

/-! ### store -/

@[simp] theorem store_cfg (d : Tick) : (store d s).cfg = s.cfg := rfl
@[simp] theorem store_lastRise (d : Tick) : (store d s).lastRise = s.lastRise := rfl
@[simp] theorem store_cursor (d : Tick) : (store d s).cursor = s.cursor + 1 := rfl
@[simp] theorem store_nch (d : Tick) : (store d s).nch = s.nch := rfl
@[simp] theorem store_live (d : Tick) : (store d s).live = writeBank s.live s.cursor.toNat d := rfl
@[simp] theorem store_map (d : Tick) : (store d s).map = s.map := rfl
@[simp] theorem store_snap0 (d : Tick) : (store d s).snap0 = if s.front then writeBank s.snap0 s.cursor.toNat d else s.snap0 := rfl
@[simp] theorem store_snap1 (d : Tick) : (store d s).snap1 = if s.front then s.snap1 else writeBank s.snap1 s.cursor.toNat d := rfl
@[simp] theorem store_front (d : Tick) : (store d s).front = s.front := rfl
@[simp] theorem store_seq (d : Tick) : (store d s).seq = s.seq := rfl
@[simp] theorem store_frameOk (d : Tick) : (store d s).frameOk = s.frameOk := rfl
@[simp] theorem store_en (d : Tick) : (store d s).en = s.en := rfl
@[simp] theorem store_inited (d : Tick) : (store d s).inited = s.inited := rfl
@[simp] theorem store_cfgErr (d : Tick) : (store d s).cfgErr = s.cfgErr := rfl
@[simp] theorem store_hostErr (d : Tick) : (store d s).hostErr = s.hostErr := rfl
@[simp] theorem store_errCode (d : Tick) : (store d s).errCode = s.errCode := rfl
@[simp] theorem store_captureQueue (d : Tick) : (store d s).captureQueue = s.captureQueue := rfl
@[simp] theorem store_hostQueue (d : Tick) : (store d s).hostQueue = s.hostQueue := rfl
@[simp] theorem store_responses (d : Tick) : (store d s).responses = s.responses := rfl
@[simp] theorem store_faultRecord (d : Tick) : (store d s).faultRecord = s.faultRecord := rfl
@[simp] theorem store_turns (d : Tick) : (store d s).turns = s.turns := rfl
@[simp] theorem store_draws (d : Tick) : (store d s).draws = s.draws := rfl

/-! ### publish -/

@[simp] theorem publish_cfg : (publish s).cfg = s.cfg := rfl
@[simp] theorem publish_lastRise : (publish s).lastRise = s.lastRise := rfl
@[simp] theorem publish_cursor : (publish s).cursor = s.cursor := rfl
@[simp] theorem publish_nch : (publish s).nch = s.nch := rfl
@[simp] theorem publish_live : (publish s).live = s.live := rfl
@[simp] theorem publish_map : (publish s).map = s.map := rfl
@[simp] theorem publish_snap0 : (publish s).snap0 = s.snap0 := rfl
@[simp] theorem publish_snap1 : (publish s).snap1 = s.snap1 := rfl
@[simp] theorem publish_front : (publish s).front = !s.front := rfl
@[simp] theorem publish_seq : (publish s).seq = s.seq + 1 := rfl
@[simp] theorem publish_frameOk : (publish s).frameOk = s.frameOk := rfl
@[simp] theorem publish_en : (publish s).en = s.en := rfl
@[simp] theorem publish_inited : (publish s).inited = s.inited := rfl
@[simp] theorem publish_cfgErr : (publish s).cfgErr = s.cfgErr := rfl
@[simp] theorem publish_hostErr : (publish s).hostErr = s.hostErr := rfl
@[simp] theorem publish_errCode : (publish s).errCode = s.errCode := rfl
@[simp] theorem publish_captureQueue : (publish s).captureQueue = s.captureQueue := rfl
@[simp] theorem publish_hostQueue : (publish s).hostQueue = s.hostQueue := rfl
@[simp] theorem publish_responses : (publish s).responses = s.responses := rfl
@[simp] theorem publish_faultRecord : (publish s).faultRecord = s.faultRecord := rfl
@[simp] theorem publish_turns : (publish s).turns = s.turns := rfl
@[simp] theorem publish_draws : (publish s).draws = s.draws := rfl

/-! ### openFrame -/

@[simp] theorem openFrame_cfg : (openFrame s).cfg = s.cfg := rfl
@[simp] theorem openFrame_lastRise : (openFrame s).lastRise = s.lastRise := rfl
@[simp] theorem openFrame_cursor : (openFrame s).cursor = 0 := rfl
@[simp] theorem openFrame_nch : (openFrame s).nch = s.nch := rfl
@[simp] theorem openFrame_live : (openFrame s).live = s.live := rfl
@[simp] theorem openFrame_map : (openFrame s).map = s.map := rfl
@[simp] theorem openFrame_snap0 : (openFrame s).snap0 = s.snap0 := rfl
@[simp] theorem openFrame_snap1 : (openFrame s).snap1 = s.snap1 := rfl
@[simp] theorem openFrame_front : (openFrame s).front = s.front := rfl
@[simp] theorem openFrame_seq : (openFrame s).seq = s.seq := rfl
@[simp] theorem openFrame_frameOk : (openFrame s).frameOk = true := rfl
@[simp] theorem openFrame_en : (openFrame s).en = s.en := rfl
@[simp] theorem openFrame_inited : (openFrame s).inited = s.inited := rfl
@[simp] theorem openFrame_cfgErr : (openFrame s).cfgErr = s.cfgErr := rfl
@[simp] theorem openFrame_hostErr : (openFrame s).hostErr = s.hostErr := rfl
@[simp] theorem openFrame_errCode : (openFrame s).errCode = s.errCode := rfl
@[simp] theorem openFrame_captureQueue : (openFrame s).captureQueue = s.captureQueue := rfl
@[simp] theorem openFrame_hostQueue : (openFrame s).hostQueue = s.hostQueue := rfl
@[simp] theorem openFrame_responses : (openFrame s).responses = s.responses := rfl
@[simp] theorem openFrame_faultRecord : (openFrame s).faultRecord = s.faultRecord := rfl
@[simp] theorem openFrame_turns : (openFrame s).turns = s.turns := rfl
@[simp] theorem openFrame_draws : (openFrame s).draws = s.draws := rfl

/-! ### glitch -/

@[simp] theorem glitch_cfg : (glitch s).cfg = s.cfg := rfl
@[simp] theorem glitch_lastRise : (glitch s).lastRise = s.lastRise := rfl
@[simp] theorem glitch_cursor : (glitch s).cursor = s.nch := rfl
@[simp] theorem glitch_nch : (glitch s).nch = s.nch := rfl
@[simp] theorem glitch_live : (glitch s).live = s.live := rfl
@[simp] theorem glitch_map : (glitch s).map = s.map := rfl
@[simp] theorem glitch_snap0 : (glitch s).snap0 = s.snap0 := rfl
@[simp] theorem glitch_snap1 : (glitch s).snap1 = s.snap1 := rfl
@[simp] theorem glitch_front : (glitch s).front = s.front := rfl
@[simp] theorem glitch_seq : (glitch s).seq = s.seq := rfl
@[simp] theorem glitch_frameOk : (glitch s).frameOk = false := rfl
@[simp] theorem glitch_en : (glitch s).en = s.en := rfl
@[simp] theorem glitch_inited : (glitch s).inited = s.inited := rfl
@[simp] theorem glitch_cfgErr : (glitch s).cfgErr = s.cfgErr := rfl
@[simp] theorem glitch_hostErr : (glitch s).hostErr = s.hostErr := rfl
@[simp] theorem glitch_errCode : (glitch s).errCode = s.errCode := rfl
@[simp] theorem glitch_captureQueue : (glitch s).captureQueue = s.captureQueue := rfl
@[simp] theorem glitch_hostQueue : (glitch s).hostQueue = s.hostQueue := rfl
@[simp] theorem glitch_responses : (glitch s).responses = s.responses := rfl
@[simp] theorem glitch_faultRecord : (glitch s).faultRecord = s.faultRecord := rfl
@[simp] theorem glitch_turns : (glitch s).turns = s.turns := rfl
@[simp] theorem glitch_draws : (glitch s).draws = s.draws := rfl

/-! ### initialise -/

@[simp] theorem initialise_cfg (b : Bool) (n : BitVec 16) : (initialise b n s).cfg = s.cfg := rfl
@[simp] theorem initialise_lastRise (b : Bool) (n : BitVec 16) : (initialise b n s).lastRise = s.lastRise := rfl
@[simp] theorem initialise_cursor (b : Bool) (n : BitVec 16) : (initialise b n s).cursor = n.setWidth 5 := rfl
@[simp] theorem initialise_nch (b : Bool) (n : BitVec 16) : (initialise b n s).nch = n.setWidth 5 := rfl
@[simp] theorem initialise_live (b : Bool) (n : BitVec 16) : (initialise b n s).live = Vector.replicate 16 (neutralTick s.cfg) := rfl
@[simp] theorem initialise_map (b : Bool) (n : BitVec 16) : (initialise b n s).map = s.cfg.mapCfg := rfl
@[simp] theorem initialise_snap0 (b : Bool) (n : BitVec 16) : (initialise b n s).snap0 = Vector.replicate 16 (neutralTick s.cfg) := rfl
@[simp] theorem initialise_snap1 (b : Bool) (n : BitVec 16) : (initialise b n s).snap1 = Vector.replicate 16 (neutralTick s.cfg) := rfl
@[simp] theorem initialise_front (b : Bool) (n : BitVec 16) : (initialise b n s).front = false := rfl
@[simp] theorem initialise_seq (b : Bool) (n : BitVec 16) : (initialise b n s).seq = 0 := rfl
@[simp] theorem initialise_frameOk (b : Bool) (n : BitVec 16) : (initialise b n s).frameOk = false := rfl
@[simp] theorem initialise_en (b : Bool) (n : BitVec 16) : (initialise b n s).en = b := rfl
@[simp] theorem initialise_inited (b : Bool) (n : BitVec 16) : (initialise b n s).inited = true := rfl
@[simp] theorem initialise_cfgErr (b : Bool) (n : BitVec 16) : (initialise b n s).cfgErr = !b := rfl
@[simp] theorem initialise_hostErr (b : Bool) (n : BitVec 16) : (initialise b n s).hostErr = s.hostErr := rfl
@[simp] theorem initialise_errCode (b : Bool) (n : BitVec 16) : (initialise b n s).errCode = s.errCode := rfl
@[simp] theorem initialise_captureQueue (b : Bool) (n : BitVec 16) : (initialise b n s).captureQueue = s.captureQueue := rfl
@[simp] theorem initialise_hostQueue (b : Bool) (n : BitVec 16) : (initialise b n s).hostQueue = s.hostQueue := rfl
@[simp] theorem initialise_responses (b : Bool) (n : BitVec 16) : (initialise b n s).responses = s.responses := rfl
@[simp] theorem initialise_faultRecord (b : Bool) (n : BitVec 16) : (initialise b n s).faultRecord = s.faultRecord := rfl
@[simp] theorem initialise_turns (b : Bool) (n : BitVec 16) : (initialise b n s).turns = s.turns := rfl
@[simp] theorem initialise_draws (b : Bool) (n : BitVec 16) : (initialise b n s).draws = s.draws := rfl

/-! ### drop -/

@[simp] theorem drop_eq : drop s = s := rfl

end Sys2Proof.Machine
end

