-- ==== Sys2Proof/Laws/Ops.lean ====
section
/-! SUPPORT. What each shared operation can do, said once: width and bank access, how a request ends, the checks, a
rising edge, a fetch and a step. -/

namespace Sys2Proof.Machine

/-! ### Width and bank access -/

theorem truncTick_toNat (width : Nat) (v : Tick) : (truncTick width v).toNat = v.toNat % 2 ^ width := by
  have h : v.toNat % 2 ^ width < 65536 := lt_of_le_of_lt (Nat.mod_le _ _) v.isLt
  simp [truncTick, Nat.mod_eq_of_lt h]

theorem truncTick_lt (width : Nat) (v : Tick) : (truncTick width v).toNat < 2 ^ width := by
  rw [truncTick_toNat]
  exact Nat.mod_lt _ (Nat.two_pow_pos width)

theorem bankOf_get (f : Nat → Tick) (i : Fin 16) : (bankOf f)[i] = f i := by
  fin_cases i <;> rfl

theorem mapOf_get (f : Nat → Index) (i : Fin 16) : (mapOf f)[i] = f i := by
  fin_cases i <;> rfl

theorem writeBank_get_same (b : Bank) (i : Fin 16) (v : Tick) : (writeBank b i.val v)[i] = v := by
  simp [writeBank]

theorem writeBank_get_other (b : Bank) (n : Nat) (i : Fin 16) (v : Tick) (h : i.val ≠ n) :
    (writeBank b n v)[i] = b[i] := by
  simp [writeBank, h.symm]

theorem writeBank_get (b : Bank) (n : Nat) (i : Fin 16) (v : Tick) :
    (writeBank b n v)[i] = if i.val = n then v else b[i] := by
  split
  · next h => rw [← h]; exact writeBank_get_same b i v
  · next h => exact writeBank_get_other b n i v h

@[simp] theorem frontBank_respond (v : Word) (s : State) : frontBank (respond v s) = frontBank s := rfl

@[simp] theorem frontBank_raiseFault (w : Word) (f : FaultCode) (s : State) :
    frontBank (raiseFault w f s) = frontBank s := rfl

/-- A store leaves the front bank alone (10_state.md R26). -/
@[simp] theorem frontBank_store (d : Tick) (s : State) : frontBank (store d s) = frontBank s := by
  cases h : s.front <;> simp [frontBank, h]

/-- A store goes to the back bank at CURSOR (40_edge_decoder.md R105). -/
@[simp] theorem backBank_store (d : Tick) (s : State) :
    backBank (store d s) = writeBank (backBank s) s.cursor.toNat d := by
  cases h : s.front <;> simp [backBank, h]

/-- A publication makes the back bank the front bank (40_edge_decoder.md R108). -/
@[simp] theorem frontBank_publish (s : State) : frontBank (publish s) = backBank s := by
  cases h : s.front <;> simp [frontBank, backBank, h]

/-! ### Host requests -/

/-- How a request ends (41_host_port.md R130). -/
theorem endRequest_cases {i : Instr} {check : Option FaultCode} {done s t : State}
    (h : endRequest i check done s = .next t) :
    (∃ f, check = some f ∧ t = raiseFault (encode i) f s) ∨ (check = none ∧ t = done) := by
  cases check with
  | some f => exact .inl ⟨f, rfl, by simpa [endRequest] using h.symm⟩
  | none => exact .inr ⟨rfl, by simpa [endRequest] using h.symm⟩

theorem endRequest_some (i : Instr) (f : FaultCode) (done s : State) :
    endRequest i (some f) done s = .next (raiseFault (encode i) f s) := rfl

theorem endRequest_none (i : Instr) (done s : State) : endRequest i none done s = .next done := rfl

/-- The faults of an indexed read (41_host_port.md R133 to R138). -/
theorem indexCheck_cases (outOfRange : FaultCode) (idx : Index) (s : State) :
    (s.inited = false ∧ indexCheck outOfRange idx s = some .notInitialised) ∨
    (s.inited = true ∧ s.nch.toNat ≤ idx.toNat ∧ indexCheck outOfRange idx s = some outOfRange) ∨
    (s.inited = true ∧ idx.toNat < s.nch.toNat ∧ indexCheck outOfRange idx s = none) := by
  unfold indexCheck
  cases s.inited
  · simp
  · by_cases h : s.nch.toNat ≤ idx.toNat
    · simp [h]
    · simp [h]; omega

theorem mapFits_iff (m : ChannelMap) (n : Nat) :
    mapFits m n = true ↔ ∀ i : Fin 16, i.val < n → m[i].toNat < n := by
  simp [mapFits]

/-- The checks of INIT pass exactly here (41_host_port.md R131). -/
theorem initCheck_none_iff (n : BitVec 16) (s : State) :
    initCheck n s = none ↔
      s.inited = false ∧ 1 ≤ n.toNat ∧ n.toNat ≤ 16 ∧ mapFits s.cfg.mapCfg n.toNat = true := by
  unfold initCheck
  cases s.inited with
  | true => simp
  | false =>
    by_cases hn : n.toNat < 1 ∨ 16 < n.toNat
    · have hr : ¬ (1 ≤ n.toNat ∧ n.toNat ≤ 16) := by omega
      rw [if_neg (by simp), if_pos hn]
      simp only [reduceCtorEq, true_and, false_iff]
      exact fun h => hr ⟨h.1, h.2.1⟩
    · have hr : 1 ≤ n.toNat ∧ n.toNat ≤ 16 := by omega
      rw [if_neg (by simp), if_neg hn]
      cases mapFits s.cfg.mapCfg n.toNat <;> simp [hr]

/-- What a host request that goes on can leave: a fault taken, a first INIT, or a response alone. -/
theorem hostRequest_cases {i : Instr} {s t : State} (hi : i.onHostPort = true) (h : exec i s = .next t) :
    (∃ f, t = raiseFault (encode i) f s) ∨
    (∃ capOk n, i = .init capOk n ∧ initCheck n s = none ∧ t = respond 0 (initialise capOk n s)) ∨
    ((∀ capOk n, i ≠ .init capOk n) ∧ ∃ v, t = respond v s) := by
  cases i with
  | edge pol c => simp [Instr.onHostPort] at hi
  | init capOk n =>
    obtain ⟨f, -, rfl⟩ | ⟨hc, rfl⟩ := endRequest_cases h
    · exact .inl ⟨f, rfl⟩
    · exact .inr (.inl ⟨capOk, n, rfl, hc, rfl⟩)
  | wrCh idx v => cases h; exact .inr (.inr ⟨by simp, 0, rfl⟩)
  | rdSeq => cases h; exact .inr (.inr ⟨by simp, s.seq, rfl⟩)
  | rdStatus => cases h; exact .inr (.inr ⟨by simp, statusWord s, rfl⟩)
  | rdSlot | rdCh | rdMap | rdSnap | rdSnapCh =>
    obtain ⟨f, -, rfl⟩ | ⟨-, rfl⟩ := endRequest_cases h
    · exact .inl ⟨f, rfl⟩
    · exact .inr (.inr ⟨by simp, _, rfl⟩)

/-- A host request always goes on (60_exceptions.md R162). -/
theorem hostRequest_next {i : Instr} (hi : i.onHostPort = true) (s : State) : ∃ t, exec i s = .next t := by
  have h : ∀ (c : Option FaultCode) (d : State), ∃ t, endRequest i c d s = .next t := by
    intro c d
    cases c <;> exact ⟨_, rfl⟩
  cases i with
  | edge => simp [Instr.onHostPort] at hi
  | wrCh | rdSeq | rdStatus => exact ⟨_, rfl⟩
  | init | rdSlot | rdCh | rdMap | rdSnap | rdSnapCh => exact h _ _

/-! ### Edges -/

/-- What a rising edge does but for the anchor (40_edge_decoder.md R104 to R109). -/
theorem takeDelta_cases {d : Tick} {s t : State} (h : takeDelta d s = .next t) :
    (classify s.cfg d = .pulse ∧ s.cursor.toNat < s.nch.toNat ∧ storeFits s = true ∧ t = store d s) ∨
    (classify s.cfg d = .pulse ∧ s.nch.toNat ≤ s.cursor.toNat ∧ t = s) ∨
    (classify s.cfg d = .sync ∧ t = sync s) ∨
    (classify s.cfg d = .glitch ∧ t = glitch s) := by
  unfold takeDelta at h
  cases hc : classify s.cfg d with
  | pulse =>
    rw [hc] at h
    by_cases hlt : s.cursor.toNat < s.nch.toNat
    · cases hf : storeFits s with
      | true => exact .inl ⟨rfl, hlt, rfl, by simpa [hlt, hf] using h.symm⟩
      | false => simp [hlt, hf] at h
    · exact .inr (.inl ⟨rfl, by omega, by simpa [hlt] using h.symm⟩)
  | sync => rw [hc] at h; exact .inr (.inr (.inl ⟨rfl, by simpa using h.symm⟩))
  | glitch => rw [hc] at h; exact .inr (.inr (.inr ⟨rfl, by simpa using h.symm⟩))

/-- A delta is taken without a fault when the slot at CURSOR exists or is not needed. -/
theorem takeDelta_next (d : Tick) {s : State} (h : s.cursor.toNat < s.nch.toNat → s.cursor.toNat < 16) :
    ∃ t, takeDelta d s = .next t := by
  unfold takeDelta
  cases classify s.cfg d with
  | pulse =>
    by_cases hlt : s.cursor.toNat < s.nch.toNat
    · exact ⟨store d s, by simp [hlt, storeFits, h hlt]⟩
    · exact ⟨s, by simp [hlt]⟩
  | sync => exact ⟨_, rfl⟩
  | glitch => exact ⟨_, rfl⟩

/-- What an EDGE that goes on can leave (40_edge_decoder.md R100). -/
theorem execEdge_cases {pol : Bool} {c : Tick} {s t : State} (h : exec (.edge pol c) s = .next t) :
    c.toNat < 2 ^ s.cfg.width ∧
    (((s.en = false ∨ pol = false) ∧ t = s) ∨
     (s.en = true ∧ pol = true ∧
       ∃ u, takeDelta (delta s.cfg.width c s.lastRise) s = .next u ∧ t = anchor c u)) := by
  have h : execEdge pol c s = .next t := h
  unfold execEdge at h
  by_cases hc : c.toNat < 2 ^ s.cfg.width
  · refine ⟨hc, ?_⟩
    rw [if_pos hc] at h
    cases he : s.en with
    | false => left; simpa [he] using h.symm
    | true =>
      cases pol with
      | false => left; simpa [he] using h.symm
      | true =>
        right
        simp only [he, Bool.true_eq_false, if_false, risingEdge] at h
        cases hu : takeDelta (delta s.cfg.width c s.lastRise) s with
        | next u => rw [hu] at h; exact ⟨rfl, rfl, u, rfl, by simpa using h.symm⟩
        | fault f => rw [hu] at h; simp at h
        | refused r => rw [hu] at h; simp at h
  · rw [if_neg hc] at h; simp at h

/-! ### Steps -/

/-- A fetch takes from the schedule and the ports and leaves the rest. -/
theorem fetch_frame (s : State) :
    ∃ ts cq hq, (fetch s).2 = { s with turns := ts, captureQueue := cq, hostQueue := hq } := by
  unfold fetch
  cases s.turns with
  | nil => exact ⟨s.turns, s.captureQueue, s.hostQueue, rfl⟩
  | cons t ts =>
    cases t with
    | mk agent captured requested =>
      cases agent with
      | resetPin => exact ⟨_, _, _, rfl⟩
      | capture =>
        simp only [fetchCapture]
        cases h : (arrive ⟨.capture, captured, requested⟩ { s with turns := ts }).captureQueue with
        | nil => exact ⟨_, _, _, rfl⟩
        | cons => exact ⟨_, _, _, rfl⟩
      | host =>
        simp only [fetchHost]
        cases h : (arrive ⟨.host, captured, requested⟩ { s with turns := ts }).hostQueue with
        | nil => exact ⟨_, _, _, rfl⟩
        | cons => exact ⟨_, _, _, rfl⟩

/-- What a step that goes on can be (20_memory.md R56): nothing to do, a reset, an operation run, or a host word
that faults at decode. -/
theorem step_cases {s t : State} (h : step s = .next t) :
    s.cfg.wf = true ∧
    (((fetch s).1 = .idle ∧ t = (fetch s).2) ∨
     ((fetch s).1 = .reset ∧ t = assertReset (fetch s).2) ∨
     (∃ i, (fetch s).1 = .run i ∧ exec i (fetch s).2 = .next t) ∨
     (∃ w f, (fetch s).1 = .badRequest w f ∧ t = raiseFault w f (fetch s).2)) := by
  unfold step at h
  cases hw : s.cfg.wf with
  | false => simp [hw] at h
  | true =>
    refine ⟨rfl, ?_⟩
    rw [hw, if_pos rfl] at h
    cases hf : fetch s with
    | mk r u =>
      rw [hf] at h
      cases r with
      | idle => exact .inl ⟨rfl, by simpa using h.symm⟩
      | reset => exact .inr (.inl ⟨rfl, by simpa using h.symm⟩)
      | run i => exact .inr (.inr (.inl ⟨i, rfl, h⟩))
      | badRequest w f => exact .inr (.inr (.inr ⟨w, f, rfl, by simpa using h.symm⟩))
      | refuse r => simp at h

/-- Without a reset turn at the head of the schedule, a fetch finds no reset. -/
theorem fetch_ne_reset {s : State} (h : noResetWithin 1 s) : (fetch s).1 ≠ .reset := by
  unfold fetch
  cases ht : s.turns with
  | nil => simp
  | cons t ts =>
    have ha : t.agent ≠ .resetPin := h t (by simp [ht])
    cases t with
    | mk agent captured requested =>
      cases agent with
      | resetPin => exact absurd rfl ha
      | capture =>
        simp only [fetchCapture]
        cases (arrive ⟨.capture, captured, requested⟩ { s with turns := ts }).captureQueue with
        | nil => simp
        | cons w ws => simp only [readCapture]; split <;> simp
      | host =>
        simp only [fetchHost]
        cases (arrive ⟨.host, captured, requested⟩ { s with turns := ts }).hostQueue with
        | nil => simp
        | cons d ds =>
          simp only [readDelivery]
          cases wordOfDelivery d with
          | none => simp
          | some w => cases hd : decodeHost w <;> simp [hd]

end Sys2Proof.Machine
end

