-- ==== Sys2Proof/Laws/PerInstr.lean ====
section
/-! SUPPORT. Statements about every operation as syntax, one lemma per constructor. -/

namespace Sys2Proof.Laws.RowWord

/-- The encoded word has its row's match value under its row's mask (30_encoding.md R73 to R77). -/
def Statement (i : Instr) : Prop := encode i &&& rowMask i = rowMatch i

/-- An operation word under a mask, bit by bit. -/
theorem operationWord_and (op : BitVec 4) (idx : Index) (f : Bool) (data : BitVec 16) (mask value : Word)
    (h : ∀ i < 32, ((if i < 16 then data.getLsbD i else if i = 16 then f else if i < 24 then false
      else if i < 28 then idx.getLsbD (i - 24) else op.getLsbD (i - 28)) && mask.getLsbD i) = value.getLsbD i) :
    operationWord op idx f data &&& mask = value := by
  apply BitVec.eq_of_getLsbD_eq
  intro i hi
  rw [BitVec.getLsbD_and, operationWord_bit]
  exact h i hi

theorem edge (pol : Bool) (c : Tick) : Statement (.edge pol c) :=
  operationWord_and _ _ _ _ _ _ (by intro i hi; interval_cases i <;> simp [rowMask, rowMatch])

theorem init (capOk : Bool) (n : BitVec 16) : Statement (.init capOk n) :=
  operationWord_and _ _ _ _ _ _ (by intro i hi; interval_cases i <;> simp [rowMask, rowMatch])

theorem rdSlot (idx : Index) : Statement (.rdSlot idx) :=
  operationWord_and _ _ _ _ _ _ (by intro i hi; interval_cases i <;> simp [rowMask, rowMatch])

theorem rdCh (idx : Index) : Statement (.rdCh idx) :=
  operationWord_and _ _ _ _ _ _ (by intro i hi; interval_cases i <;> simp [rowMask, rowMatch])

theorem wrCh (idx : Index) (v : BitVec 16) : Statement (.wrCh idx v) :=
  operationWord_and _ _ _ _ _ _ (by intro i hi; interval_cases i <;> simp [rowMask, rowMatch])

theorem rdMap (idx : Index) : Statement (.rdMap idx) :=
  operationWord_and _ _ _ _ _ _ (by intro i hi; interval_cases i <;> simp [rowMask, rowMatch])

theorem rdSnap (idx : Index) : Statement (.rdSnap idx) :=
  operationWord_and _ _ _ _ _ _ (by intro i hi; interval_cases i <;> simp [rowMask, rowMatch])

theorem rdSnapCh (idx : Index) : Statement (.rdSnapCh idx) :=
  operationWord_and _ _ _ _ _ _ (by intro i hi; interval_cases i <;> simp [rowMask, rowMatch])

theorem rdSeq : Statement .rdSeq := by unfold Statement; decide

theorem rdStatus : Statement .rdStatus := by unfold Statement; decide

end Sys2Proof.Laws.RowWord
end

