-- ==== Sys2Proof/Machine/TraceText.lean ====
section
/-! DEFINITION. The text of a trace, one line at a time, as a list of characters (30_encoding.md R83, R84): a comment
and a result note are dropped, the words and numbers read, and the line they spell found. -/

namespace Sys2Proof.Machine

/-- The characters before a comment `;` or a result note `->` (30_encoding.md R83). DESIGN CHOICE (log entry 18): a
note is dropped unread, after a line of any agent. -/
def dropNotes : List Char → List Char
  | [] => []
  | c :: cs =>
    if c = ';' then []
    else if c = '-' ∧ cs.head? = some '>' then []
    else c :: dropNotes cs

/-- The words of a line: what spaces and commas keep apart. DESIGN CHOICE (log entry 18): the spec lists the lines
with their commas and is silent on any other text, and here a comma missing, doubled or misplaced counts as a
space, so `H: INIT 8 1` reads as `H: INIT 8, 1`. -/
def lineWords : List Char → List Char → List (List Char)
  | [], [] => []
  | [], word => [word.reverse]
  | c :: cs, word =>
    if c = ' ' ∨ c = ',' then
      if word = [] then lineWords cs [] else word.reverse :: lineWords cs []
    else lineWords cs (c :: word)

/-- A decimal digit. -/
def decimalDigit (c : Char) : Option Nat :=
  if '0'.toNat ≤ c.toNat ∧ c.toNat ≤ '9'.toNat then some (c.toNat - '0'.toNat) else none

/-- A hexadecimal digit. -/
def hexDigit (c : Char) : Option Nat :=
  if 'A'.toNat ≤ c.toNat ∧ c.toNat ≤ 'F'.toNat then some (c.toNat - 'A'.toNat + 10)
  else if 'a'.toNat ≤ c.toNat ∧ c.toNat ≤ 'f'.toNat then some (c.toNat - 'a'.toNat + 10)
  else decimalDigit c

/-- Digits in a base, most significant first. DESIGN CHOICE (log entry 18): `_` is skipped wherever it stands, since
95_test_vectors.md sets digits apart with it; `readNumeral` refuses a number without any digit. -/
def readDigits (base : Nat) (digit : Char → Option Nat) : Nat → List Char → Option Nat
  | value, [] => some value
  | value, c :: cs =>
    if c = '_' then readDigits base digit value cs
    else
      match digit c with
      | none => none
      | some d => readDigits base digit (value * base + d) cs

/-- A numeral in a base. DESIGN CHOICE (log entry 18): characters with no digit among them are no number. -/
def readNumeral (base : Nat) (digit : Char → Option Nat) (cs : List Char) : Option Nat :=
  if cs.all (fun c => decide (c = '_')) then none else readDigits base digit 0 cs

/-- A number: decimal, or hexadecimal after `0x` (30_encoding.md R83). -/
def readNumber : List Char → Option Nat
  | '0' :: 'x' :: cs => readNumeral 16 hexDigit cs
  | cs => readNumeral 10 decimalDigit cs

/-- A number that fits a field of `n` bits. -/
def readField (n : Nat) (cs : List Char) : Option (BitVec n) :=
  match readNumber cs with
  | none => none
  | some v => if v < 2 ^ n then some (BitVec.ofNat n v) else none

/-- A request with an index operand. -/
def readIndexed (f : Index → Instr) (cs : List Char) : Option TraceLine :=
  (readField 4 cs).map fun idx => .request (f idx)

/-- The line that the words after a host tag spell (30_encoding.md R83, R84). -/
def readHostLine : List (List Char) → Option TraceLine
  | [['R', 'D', '_', 'S', 'E', 'Q']] => some (.request .rdSeq)
  | [['R', 'D', '_', 'S', 'T', 'A', 'T', 'U', 'S']] => some (.request .rdStatus)
  | [word] => (readField 32 word).map .requestWord
  | [op, x] =>
    if op = ['R', 'D', '_', 'S', 'L', 'O', 'T'] then readIndexed .rdSlot x
    else if op = ['R', 'D', '_', 'C', 'H'] then readIndexed .rdCh x
    else if op = ['R', 'D', '_', 'M', 'A', 'P'] then readIndexed .rdMap x
    else if op = ['R', 'D', '_', 'S', 'N', 'A', 'P'] then readIndexed .rdSnap x
    else if op = ['R', 'D', '_', 'S', 'N', 'A', 'P', '_', 'C', 'H'] then readIndexed .rdSnapCh x
    else if op = ['R', 'E', 'A', 'D', '_', 'F', 'R', 'A', 'M', 'E'] then (readNumber x).map .readFrame
    else none
  | [op, x, y] =>
    if op = ['I', 'N', 'I', 'T'] then
      match readField 16 x, readField 1 y with
      | some n, some b => some (.request (.init (decide (b = 1)) n))
      | _, _ => none
    else if op = ['W', 'R', '_', 'C', 'H'] then
      match readField 4 x, readField 16 y with
      | some idx, some v => some (.request (.wrCh idx v))
      | _, _ => none
    else none
  | _ => none

/-- The line that the words after a capture tag spell (30_encoding.md R83, R84). -/
def readCaptureLine : List (List Char) → Option TraceLine
  | [op, x] =>
    if op = ['R', 'I', 'S', 'E', '_', 'A', 'F', 'T', 'E', 'R'] then (readNumber x).map .riseAfter
    else if op = ['F', 'A', 'L', 'L', '_', 'A', 'F', 'T', 'E', 'R'] then (readNumber x).map .fallAfter
    else none
  | [op, x, pol] =>
    if op = ['E', 'D', 'G', 'E'] then
      match readField 16 x with
      | none => none
      | some c =>
        if pol = ['r', 'i', 's', 'e'] then some (.edge c true)
        else if pol = ['f', 'a', 'l', 'l'] then some (.edge c false)
        else none
    else none
  | _ => none

/-- A trace line from its text (30_encoding.md R83): the agent's tag `C:` or `H:`, or the bare line `RESET`. None
where the text is no line of a trace, an empty line or a comment alone among them (log entry 18). -/
def readLine (text : List Char) : Option TraceLine :=
  match lineWords (dropNotes text) [] with
  | [['R', 'E', 'S', 'E', 'T']] => some .reset
  | ['C', ':'] :: words => readCaptureLine words
  | ['H', ':'] :: words => readHostLine words
  | _ => none

end Sys2Proof.Machine
end

