-- ==== Sys2Proof/Tests/Slice0.lean ====
section
/-! SUPPORT. The model's own tests: ill-formed terms that the checks refuse, words written out from 30_encoding.md,
single steps from the vectors of 95_test_vectors.md, and a witness for the hypotheses of each statement. -/

namespace Sys2Proof.Tests

open Sys2Proof Sys2Proof.Machine

/-! ### Small states -/

/-- A state after reset in which the free values happen to be 0. -/
def fresh : State where
  cfg := Config.default
  lastRise := 0
  cursor := 0
  nch := 0
  live := Vector.replicate 16 0
  map := Vector.replicate 16 0
  snap0 := Vector.replicate 16 0
  snap1 := Vector.replicate 16 0
  front := false
  seq := 0
  frameOk := false
  en := false
  inited := false
  cfgErr := false
  hostErr := false
  errCode := 0
  captureQueue := []
  hostQueue := []
  responses := []
  faultRecord := []
  turns := []
  draws := 1

/-- After `INIT 8, 1`. -/
def ready : State := initialise true 8 fresh

/-- After `INIT 8, 0`. -/
def noResource : State := initialise false 8 fresh

/-- The pre-state of EV1: two slots of a frame filled. -/
def midFrame : State := { ready with cursor := 2, frameOk := true, lastRise := 0xFF00 }

/-- The pre-state of EV4: a full frame. -/
def fullFrame : State := { ready with cursor := 8, frameOk := true, seq := 5, lastRise := 0 }

/-- `s` with one host word to take next. -/
def withHost (w : Word) (s : State) : State := { s with hostQueue := [deliveryOf w], turns := [⟨.host, [], []⟩] }

/-- `s` with one capture word to take next. -/
def withCapture (w : Word) (s : State) : State := { s with captureQueue := [w], turns := [⟨.capture, [], []⟩] }

/-- A field of a step's next state. -/
def after {α : Type} (f : State → α) : Host.Outcome State Fault Refusal → Option α
  | .next t => some (f t)
  | .fault _ => none
  | .refused _ => none

/-- The last response of a step's next state. -/
def lastResponse (o : Host.Outcome State Fault Refusal) : Option (Option Response) :=
  after (fun t => t.responses.getLast?) o

/-! ### WellFormed: an ill-formed term for each check -/

theorem test_default_wf : Config.default.wf = true := by decide
theorem test_wf_refuses_width_zero : ({ Config.default with width := 0 } : Config).wf = false := by decide
theorem test_wf_refuses_width_17 : ({ Config.default with width := 17 } : Config).wf = false := by decide
theorem test_wf_refuses_low_at_high :
    ({ Config.default with lowBound := 2100, neutral := 2100 } : Config).wf = false := by decide
theorem test_wf_refuses_high_above_sync : ({ Config.default with highBound := 2501 } : Config).wf = false := by decide
theorem test_wf_refuses_sync_at_range : ({ Config.default with syncBound := 65536 } : Config).wf = false := by decide
theorem test_wf_refuses_neutral_at_low : ({ Config.default with neutral := 900 } : Config).wf = false := by decide
theorem test_wf_refuses_neutral_at_high : ({ Config.default with neutral := 2100 } : Config).wf = false := by decide
theorem test_wf_refuses_wide_timestamp : (Instr.edge true 4096).wf 12 = false := by decide
theorem test_wf_admits_narrow_timestamp : (Instr.edge true 4095).wf 12 = true := by decide
theorem test_wf_refuses_misaligned_delivery : (Delivery.mk 1 [0, 0, 0, 0]).wf = false := by decide
theorem test_wf_refuses_short_delivery : (Delivery.mk 0 [0, 0, 0]).wf = false := by decide
theorem test_bad_config_is_refused :
    step { fresh with cfg := { Config.default with width := 17 } } = .refused .badConfig := by rfl

/-! ### Words written out from 30_encoding.md R71 to R77: OP, IDX, RSV, F, DATA -/

theorem test_word_edge : decodeCapture 16 0b0001_0000_0000000_1_0010011100010000 = some (.edge true 10000) := by decide
theorem test_word_edge_fall : decodeCapture 16 0b0001_0000_0000000_0_0010011100010000 = some (.edge false 10000) := by
  decide
theorem test_word_edge_idx : decodeCapture 16 0b0001_0001_0000000_1_0010011100010000 = none := by decide
theorem test_word_edge_rsv : decodeCapture 16 0b0001_0000_0000001_1_0010011100010000 = none := by decide
theorem test_word_edge_wide : decodeCapture 12 0b0001_0000_0000000_1_0001000000000000 = none := by decide
theorem test_word_init : decodeHost 0b0010_0000_0000000_1_0000000000001000 = .request (.init true 8) := by decide
theorem test_word_init_no_resource : decodeHost 0b0010_0000_0000000_0_0000000000001000 = .request (.init false 8) := by
  decide
theorem test_word_rdSlot : decodeHost 0b0011_0111_0000000_0_0000000000000000 = .request (.rdSlot 7) := by decide
theorem test_word_rdCh : decodeHost 0b0100_0011_0000000_0_0000000000000000 = .request (.rdCh 3) := by decide
theorem test_word_wrCh : decodeHost 0b0101_0011_0000000_0_0000011111010000 = .request (.wrCh 3 2000) := by decide
theorem test_word_rdMap : decodeHost 0b0110_1111_0000000_0_0000000000000000 = .request (.rdMap 15) := by decide
theorem test_word_rdSnap : decodeHost 0b0111_0111_0000000_0_0000000000000000 = .request (.rdSnap 7) := by decide
theorem test_word_rdSnapCh : decodeHost 0b1000_0010_0000000_0_0000000000000000 = .request (.rdSnapCh 2) := by decide
theorem test_word_rdSeq : decodeHost 0b1001_0000_0000000_0_0000000000000000 = .request .rdSeq := by decide
theorem test_word_rdStatus : decodeHost 0b1010_0000_0000000_0_0000000000000000 = .request .rdStatus := by decide
theorem test_word_zero : decodeHost 0 = .faulty .illegalOp := by decide
theorem test_word_edge_on_host : decodeHost 0x10010064 = .faulty .illegalOp := by decide
theorem test_word_reserved_op : decodeHost 0xB0000000 = .faulty .illegalOp := by decide
theorem test_word_init_idx : decodeHost 0x21010008 = .faulty .reservedBits := by decide
theorem test_word_init_rsv : decodeHost 0x20020008 = .faulty .reservedBits := by decide
theorem test_word_rdSlot_flag : decodeHost 0x30010000 = .faulty .reservedBits := by decide
theorem test_word_rdSeq_data : decodeHost 0x90000001 = .faulty .reservedBits := by decide
theorem test_encode_init : encode (.init true 8) = 0x20010008 := by decide
theorem test_encode_edge : encode (.edge true 10000) = 0x10012710 := by decide
theorem test_delivery_lanes :
    wordOfDelivery ⟨0, [0x08, 0x00, 0x01, 0x20]⟩ = some 0x20010008 := by decide
theorem test_rows_disjoint :
    ([Instr.edge true 0, .init true 0, .rdSlot 0, .rdCh 0, .wrCh 0 0, .rdMap 0, .rdSnap 0, .rdSnapCh 0, .rdSeq,
      .rdStatus].Pairwise fun i j => rowMatch i &&& rowMask j ≠ rowMatch j) := by decide

/-! ### The delta and the classes (95_test_vectors.md 2.1) -/

theorem test_delta_wraps : delta 16 0x0398 0xFF00 = 1176 := by decide
theorem test_delta_behind : delta 16 100 101 = 65535 := by decide
theorem test_delta_narrow : delta 12 5 0xFFF = 6 := by decide
theorem test_class_bounds :
    ([900, 901, 2099, 2100, 2500, 2501].map (classify Config.default)) =
      [.glitch, .pulse, .pulse, .glitch, .glitch, .sync] := by decide

/-! ### One step of each operation (95_test_vectors.md 2.2, 2.3) -/

/-- EV1. -/
theorem test_edge_store :
    after (fun t => (t.live[2], t.snap1[2], t.snap0[2], t.cursor, t.lastRise)) (exec (.edge true 0x0398) midFrame) =
      some (1176, 1176, 1500, 3, 0x0398) := by decide
/-- EV4. -/
theorem test_edge_publish :
    after (fun t => (t.front, t.seq, t.cursor, t.frameOk, t.lastRise)) (exec (.edge true 3000) fullFrame) =
      some (true, 6, 0, true, 3000) := by decide
/-- HV3: STATUS 0x0010_1003 after INIT 16, 1. -/
theorem test_init_sixteen :
    after statusWord (step (withHost 0x20010010 fresh)) = some 0x00101003 := by decide
/-- HV4: a map that does not fit. -/
theorem test_init_bad_map :
    lastResponse (exec (.init true 4)
      { fresh with cfg := { Config.default with mapCfg := #v[5, 0, 1, 2, 3, 4, 6, 7, 8, 9, 10, 11, 12, 13, 14, 15] } }) =
      some (some ⟨.err, 6⟩) := by decide
/-- HV7 and HV8. -/
theorem test_rdSlot_last : lastResponse (step (withHost 0x37000000 ready)) = some (some ⟨.ok, 1500⟩) := by decide
theorem test_rdSlot_past : lastResponse (step (withHost 0x38000000 ready)) = some (some ⟨.err, 7⟩) := by decide
/-- 41_host_port.md R134, worked example; HV9. -/
theorem test_rdCh_mapped :
    lastResponse (exec (.rdCh 0) { ready with map := ready.map.set 0 2, live := ready.live.set 2 1200 }) =
      some (some ⟨.ok, 1200⟩) := by decide
theorem test_rdCh_past : lastResponse (step (withHost 0x48000000 ready)) = some (some ⟨.err, 8⟩) := by decide
/-- HV11, and 41_host_port.md R135. -/
theorem test_wrCh_fresh : lastResponse (step (withHost 0x5F00FFFF fresh)) = some (some ⟨.ok, 0⟩) := by decide
theorem test_wrCh_no_write : after (fun t => t.live[3]) (exec (.wrCh 3 2000) ready) = some 1500 := by decide
/-- 41_host_port.md R136, worked example. -/
theorem test_rdMap_identity : lastResponse (step (withHost 0x65000000 ready)) = some (some ⟨.ok, 5⟩) := by decide
theorem test_rdMap_past : lastResponse (exec (.rdMap 8) ready) = some (some ⟨.err, 8⟩) := by decide
/-- HV20; and the front bank is read, not the back one. -/
theorem test_rdSnap_fresh : lastResponse (step (withHost 0x70000000 fresh)) = some (some ⟨.err, 3⟩) := by decide
theorem test_rdSnap_front :
    lastResponse (exec (.rdSnap 7) { ready with front := true, snap1 := ready.snap1.set 7 1700 }) =
      some (some ⟨.ok, 1700⟩) := by decide
/-- Program P3: MAP[2] = 1. -/
theorem test_rdSnapCh_mapped :
    lastResponse (exec (.rdSnapCh 2) { ready with map := ready.map.set 2 1, snap0 := ready.snap0.set 1 1020 }) =
      some (some ⟨.ok, 1020⟩) := by decide
theorem test_rdSnapCh_past : lastResponse (exec (.rdSnapCh 8) ready) = some (some ⟨.err, 8⟩) := by decide
/-- HV12. -/
theorem test_rdSeq_fresh : lastResponse (step (withHost 0x90000000 fresh)) = some (some ⟨.ok, 0⟩) := by decide
/-- 41_host_port.md R140, worked example; HV13. -/
theorem test_rdStatus_no_resource :
    lastResponse (step (withHost 0xA0000000 noResource)) = some (some ⟨.ok, 0x00080806⟩) := by decide
theorem test_rdStatus_fresh : lastResponse (step (withHost 0xA0000000 fresh)) = some (some ⟨.ok, 0⟩) := by decide
/-- HV1: STATUS 0x0500_0020. -/
theorem test_fault_status : after statusWord (step (withHost 0x20010000 fresh)) = some 0x05000020 := by decide
/-- HV14: ReservedBits goes before NotInitialised (60_exceptions.md R161). -/
theorem test_fault_priority : lastResponse (step (withHost 0x3F000001 fresh)) = some (some ⟨.err, 2⟩) := by decide
/-- HV16: EDGE on the host port. -/
theorem test_edge_on_host_port :
    after (fun t => (t.errCode, t.faultRecord)) (step (withHost 0x10010064 ready)) =
      some (1, [⟨0x10010064, .illegalOp⟩]) := by decide
/-- 30_encoding.md R80. -/
theorem test_malformed_capture : step (withCapture 0x11012710 ready) = .refused .noEvent := by rfl
/-- 20_memory.md R53. -/
theorem test_partial_delivery :
    step { ready with hostQueue := [⟨0, [0x37]⟩], turns := [⟨.host, [], []⟩] } = .refused .partialWord := by rfl
/-- 70_reset_and_hazards.md R180: what is pending is discarded, the record stays. -/
theorem test_reset_discards :
    after (fun t => (t.captureQueue, t.hostQueue, t.inited, t.faultRecord))
      (step { ready with
        captureQueue := [0x10012710], hostQueue := [deliveryOf 0], faultRecord := [⟨0, .illegalOp⟩],
        turns := [⟨.resetPin, [0x10002710], [deliveryOf 1]⟩] }) =
      some ([], [], false, [⟨0, .illegalOp⟩]) := by decide
/-- The next step after reset runs the placed word. -/
theorem test_placed_init :
    after (fun t => (t.nch, t.en)) (step (State.reset.withFetchWord 32 0x20010008)) = some (8, true) := by decide
theorem test_placed_edge :
    after (fun t => (t.en, t.captureQueue)) (step (State.reset.withFetchWord 32 0x10010064)) = some (false, []) := by
  decide
/-- Program P1, first lines: the words RISE_AFTER expands to (30_encoding.md R84). -/
theorem test_assemble :
    assemble 16 none [.edge 10000 true, .riseAfter 3000] =
      some [captureTurn 0x10012710, captureTurn 0x100132C8] := by decide
theorem test_assemble_error : assemble 16 none [.riseAfter 3000] = none := by decide
/-- Lines of program P1 and P4 (30_encoding.md R83). -/
theorem test_read_edge :
    readLine ['C', ':', ' ', 'E', 'D', 'G', 'E', ' ', '1', '0', '0', ',', ' ', 'r', 'i', 's', 'e', ' ', ';', 'x'] =
      some (.edge 100 true) := by decide
theorem test_read_init :
    readLine ['H', ':', ' ', 'I', 'N', 'I', 'T', ' ', '0', 'x', '1', '0', ',', ' ', '0', ' ', '-', '>', ' ', 'O', 'K'] =
      some (.request (.init false 16)) := by decide
theorem test_read_word :
    readLine ['H', ':', ' ', '0', 'x', '9', '0', '0', '0', '_', '0', '0', '0', '1'] =
      some (.requestWord 0x90000001) := by decide
/-- The model's choices about text outside the listed lines (log entry 18). -/
theorem test_read_without_comma :
    readLine ['H', ':', ' ', 'I', 'N', 'I', 'T', ' ', '8', ' ', '1'] = some (.request (.init true 8)) := by decide
theorem test_read_no_digit :
    readNumber ['_'] = none ∧ readNumber ['0', 'x', '_'] = none ∧ readNumber ['0', 'x'] = none ∧ readNumber [] = none ∧
      readNumber ['0'] = some 0 := by decide
/-- The model's one fault, in a state that no run reaches. -/
theorem test_store_outside :
    exec (.edge true 1000) { ready with cursor := 16, nch := 20, lastRise := 0 } = .fault .slotOutsideStore := by rfl

/-! ### Witnesses: the hypotheses of each statement can be met -/

theorem test_inv_ready : ready.Inv :=
  ⟨by decide, by decide, by decide, by decide, by decide, by decide, by decide, by decide, by decide⟩
theorem test_inv_fresh : fresh.Inv :=
  ⟨by decide, by decide, by decide, by decide, by decide, by decide, by decide, by decide, by decide⟩
theorem test_inv_midFrame : midFrame.Inv :=
  ⟨by decide, by decide, by decide, by decide, by decide, by decide, by decide, by decide, by decide⟩
theorem test_inv_fullFrame : fullFrame.Inv :=
  ⟨by decide, by decide, by decide, by decide, by decide, by decide, by decide, by decide, by decide⟩

theorem test_witness_DecodeEncodeAgree :
    (Instr.rdSlot 15).onHostPort = true ∧ (Instr.edge true 4095).onHostPort = false ∧
      (Instr.edge true 4095).wf 12 = true := by decide
theorem test_witness_EncodeDecodeAgree :
    decodeHost 0x3F000000 = .request (.rdSlot 15) ∧ decodeCapture 12 0x10010FFF = some (.edge true 0xFFF) := by decide
theorem test_witness_IllegalOpExactly :
    ((0x0FFFFFFF : Word) >>> 28).toNat = 0 ∧ ((0x10000000 : Word) >>> 28).toNat = 1 ∧
      ((0xB0000000 : Word) >>> 28).toNat = 11 ∧ ((0xAFFFFFFF : Word) >>> 28).toNat = 10 := by decide
theorem test_witness_ReservedBitsExactly :
    (Instr.rdSlot 0).onHostPort = true ∧ (0x3F000001 : Word) >>> 28 = rowMatch (.rdSlot 0) >>> 28 ∧
      (0x3F000001 : Word) &&& rowMask (.rdSlot 0) ≠ rowMatch (.rdSlot 0) ∧
      (0x3F000000 : Word) &&& rowMask (.rdSlot 0) = rowMatch (.rdSlot 0) := by decide
theorem test_witness_CaptureWordSpellsEdge :
    (0x10010FFF : Word) &&& 0xFFFE0000 = 0x10000000 ∧ ((0x10010FFF : Word).setWidth 16).toNat < 2 ^ 12 := by decide
theorem test_witness_HostStepRunsDecoded :
    (withHost 0x37000000 ready).cfg.wf = true ∧ (withHost 0x37000000 ready).turns = [⟨.host, [], []⟩] ∧
      (withHost 0x37000000 ready).hostQueue ++ [] = [deliveryOf 0x37000000] ∧
      wordOfDelivery (deliveryOf 0x37000000) = some 0x37000000 ∧
      decodeHost 0x37000000 = .request (.rdSlot 7) := by decide
theorem test_witness_CaptureStepRunsDecoded :
    (withCapture 0x10012710 ready).cfg.wf = true ∧ (withCapture 0x10012710 ready).turns = [⟨.capture, [], []⟩] ∧
      (withCapture 0x10012710 ready).captureQueue ++ [] = [0x10012710] ∧
      decodeCapture (withCapture 0x10012710 ready).cfg.width 0x10012710 = some (.edge true 10000) := by decide
theorem test_witness_HostDecodeFaultIsTaken :
    (withHost 0 fresh).cfg.wf = true ∧ (withHost 0 fresh).turns = [⟨.host, [], []⟩] ∧
      (withHost 0 fresh).hostQueue ++ [] = [deliveryOf 0] ∧ wordOfDelivery (deliveryOf 0) = some 0 ∧
      decodeHost 0 = .faulty .illegalOp ∧ decodeHost 0x90000001 = .faulty .reservedBits := by decide
theorem test_witness_IllFormedRecordRefused :
    { fresh with cfg := { Config.default with neutral := 900 } : State }.cfg.wf = false := by decide
theorem test_witness_PartialDeliveryRefused :
    ready.cfg.wf = true ∧ (Delivery.mk 0 [1, 2, 3, 4, 5]).wf = false ∧
      { ready with turns := [⟨.host, [], [⟨0, [1, 2, 3, 4, 5]⟩]⟩] : State }.hostQueue ++ [⟨0, [1, 2, 3, 4, 5]⟩] =
        [⟨0, [1, 2, 3, 4, 5]⟩] := by decide
theorem test_witness_MalformedCaptureWordRefused :
    (withCapture 0x10032710 ready).captureQueue ++ [] = [0x10032710] ∧
      (0x10032710 : Word) &&& 0xFFFE0000 ≠ 0x10000000 ∧ 2 ^ 12 ≤ ((0x10011000 : Word).setWidth 16).toNat := by decide
theorem test_witness_IdleTurnPasses :
    fresh.cfg.wf = true ∧ fresh.turns = [] ∧ fresh.hostQueue ++ [] = [] ∧ fresh.captureQueue ++ [] = [] := by decide
theorem test_witness_ResetStepClears :
    ready.cfg.wf = true ∧ { ready with turns := [⟨.resetPin, [], []⟩] : State }.turns = [⟨.resetPin, [], []⟩] := by
  decide
theorem test_witness_ResetAndInitValues :
    exec (.init true 8) fresh = .next (respond 0 ready) ∧ (respond 0 ready).faultRecord = fresh.faultRecord := by
  exact ⟨by rfl, by decide⟩
theorem test_witness_UnconfiguredBehaviour :
    fresh.Inv ∧ fresh.inited = false ∧ fresh.hostErr = false ∧ (Instr.rdMap 0).isIndexedRead = true ∧
      { fresh with hostErr := true, errCode := 3 : State }.Inv :=
  ⟨test_inv_fresh, by decide, by decide, by decide,
    ⟨by decide, by decide, by decide, by decide, by decide, by decide, by decide, by decide, by decide⟩⟩
theorem test_witness_PlacedWordRunsNext :
    fresh.cfg.wf = true ∧ fresh.cfg.width = 16 ∧ decodeTableWord 32 0x20010008 = some (.init true 8) ∧
      decodeTableWord 32 0x10012710 = some (.edge true 10000) := by decide
theorem test_witness_GatedEdgeChangesNothing :
    (4000 : Tick).toNat < 2 ^ fresh.cfg.width ∧ fresh.en = false ∧ ready.en = true := by decide
theorem test_witness_DeltaIsElapsedModulo : 12 ≤ 16 ∧ (0xFFF : Tick).toNat < 2 ^ 12 := by decide
theorem test_witness_DeltaIsWrappedDifference : (0 : Tick).toNat < 2 ^ 12 ∧ (0xFFF : Tick).toNat < 2 ^ 12 := by decide
theorem test_witness_ClassesAreTheRanges :
    Config.default.isPulse 901 ∧ Config.default.isPulse 2099 ∧ Config.default.isSync 2501 ∧
      Config.default.isGlitch 900 ∧ Config.default.isGlitch 2100 ∧ Config.default.isGlitch 2500 := by decide
theorem test_witness_PulseIsStored :
    AcceptsRise 0x0398 midFrame ∧ midFrame.cfg.isPulse (elapsed 16 0x0398 midFrame.lastRise) ∧
      midFrame.cursor.toNat < midFrame.nch.toNat ∧ midFrame.nch.toNat ≤ 16 := by
  unfold AcceptsRise; decide
theorem test_witness_ExcessPulseIsDropped :
    AcceptsRise 1500 fullFrame ∧ fullFrame.cfg.isPulse (elapsed 16 1500 fullFrame.lastRise) ∧
      fullFrame.cursor = fullFrame.nch := by
  unfold AcceptsRise; decide
theorem test_witness_SyncOpensFrameAndPublishes :
    AcceptsRise 2501 fullFrame ∧ fullFrame.cfg.isSync (elapsed 16 2501 fullFrame.lastRise) ∧
      fullFrame.frameOk = true ∧ fullFrame.cursor = fullFrame.nch ∧
      AcceptsRise 1 midFrame ∧ midFrame.cursor ≠ midFrame.nch := by
  unfold AcceptsRise; decide
theorem test_witness_GlitchFreezesFrame :
    AcceptsRise 900 fullFrame ∧ fullFrame.cfg.isGlitch (elapsed 16 900 fullFrame.lastRise) ∧
      AcceptsRise 2500 fullFrame ∧ fullFrame.cfg.isGlitch (elapsed 16 2500 fullFrame.lastRise) := by
  unfold AcceptsRise; decide
theorem test_witness_EdgePathNeverFaults :
    midFrame.Inv ∧ decodeCapture midFrame.cfg.width 0x10010398 = some (.edge true 0x0398) :=
  ⟨test_inv_midFrame, by decide⟩
theorem test_witness_EdgeFrame : ∃ t, exec (.edge true 0x0398) midFrame = .next t := ⟨_, rfl⟩
theorem test_witness_InitWritesOrFaults :
    ready.inited = true ∧ fresh.inited = false ∧ (0 : BitVec 16).toNat < 1 ∧ 16 < (17 : BitVec 16).toNat ∧
      1 ≤ (16 : BitVec 16).toNat ∧ (16 : BitVec 16).toNat ≤ 16 ∧
      (∀ i : Fin 16, i.val < (16 : BitVec 16).toNat → fresh.cfg.mapCfg[i].toNat < (16 : BitVec 16).toNat) ∧
      (∃ i : Fin 16, i.val < (1 : BitVec 16).toNat ∧
        (1 : BitVec 16).toNat ≤
          (#v[5, 0, 1, 2, 3, 4, 6, 7, 8, 9, 10, 11, 12, 13, 14, 15] : ChannelMap)[i].toNat) := by decide
theorem test_witness_NoCaptureResourceStaysNeutral :
    exec (.init false 8) fresh = .next (respond 0 noResource) ∧ noResource.NeutralForever ∧
      noResetWithin 1 noResource ∧ (7 : Index).toNat < noResource.nch.toNat := by
  refine ⟨by rfl, ?_, ?_, by decide⟩
  · unfold State.NeutralForever; decide
  · unfold noResetWithin; decide
theorem test_witness_reads :
    fresh.inited = false ∧ ready.inited = true ∧ ready.nch.toNat ≤ (8 : Index).toNat ∧
      (7 : Index).toNat < ready.nch.toNat := by decide
theorem test_witness_OneResponsePerRequest : (Instr.rdSlot 0).onHostPort = true := by decide
theorem test_witness_HostFrame :
    (∃ t, exec (.init true 8) ready = .next t) ∧ ready.inited = true ∧ (∃ t, exec .rdSeq fresh = .next t) ∧
      ∀ capOk n, Instr.rdSeq ≠ .init capOk n :=
  ⟨⟨_, rfl⟩, by decide, ⟨_, rfl⟩, by simp⟩
theorem test_witness_RequestsAreIdempotent :
    exec .rdSeq fresh = .next (respond 0 fresh) ∧ exec .rdSeq (respond 0 fresh) = .next (respond 0 (respond 0 fresh)) :=
  ⟨rfl, rfl⟩
theorem test_witness_HostCannotReadHiddenState :
    (Instr.rdSnap 0).onHostPort = true ∧ ∀ capOk n, Instr.rdSnap 0 ≠ .init capOk n := by simp [Instr.onHostPort]
theorem test_witness_ResetArraysUnobservable : fresh.inited = false ∧ fresh.en = false := by decide
theorem test_witness_RdChIsTotalAccessor :
    ready.Inv ∧ ready.inited = true ∧ (7 : Index).toNat < ready.nch.toNat := ⟨test_inv_ready, by decide, by decide⟩
theorem test_witness_StepKeepsInvariant :
    { fullFrame with captureQueue := [0x10010BB8], turns := [⟨.capture, [], []⟩] : State }.Inv ∧
      ∃ t, step (withCapture 0x10010BB8 fullFrame) = .next t :=
  ⟨⟨by decide, by decide, by decide, by decide, by decide, by decide, by decide, by decide, by decide⟩, _, rfl⟩
theorem test_witness_InvariantRulesOutFaults :
    { ready with captureQueue := [0], turns := [⟨.capture, [], []⟩] : State }.Inv ∧
      decodeCapture ready.cfg.width 0 = none ∧ (Delivery.mk 1 [0, 0, 0, 0]).wf = false :=
  ⟨⟨by decide, by decide, by decide, by decide, by decide, by decide, by decide, by decide, by decide⟩,
    by decide, by decide⟩
theorem test_witness_ConfigurationNeverChanges : ∃ t, step (withHost 0x20010008 fresh) = .next t := ⟨_, rfl⟩
theorem test_witness_FaultRecordOnlyGrows : ∃ t, step (withHost 0 fresh) = .next t := ⟨_, rfl⟩
theorem test_witness_ErrorRegistersTellLastFault :
    noResetWithin 1 (withHost 0 fresh) ∧ ∃ t, step (withHost 0 fresh) = .next t := by
  refine ⟨?_, _, rfl⟩
  unfold noResetWithin; decide
theorem test_witness_LiveSlotsChangeOnlyByPulse :
    midFrame.inited = true ∧ midFrame.cfg.wf = true ∧ noResetWithin 1 (withCapture 0x10010398 midFrame) ∧
      after (fun t => decide (t.live[2] ≠ midFrame.live[2])) (step (withCapture 0x10010398 midFrame)) = some true := by
  refine ⟨by decide, by decide, ?_, by decide⟩
  unfold noResetWithin; decide
theorem test_witness_PublicationIsOneFrame :
    fullFrame.Inv ∧ fullFrame.inited = true ∧ noResetWithin 1 (withCapture 0x10010BB8 fullFrame) ∧
      after (fun t => decide (t.seq ≠ fullFrame.seq)) (step (withCapture 0x10010BB8 fullFrame)) = some true := by
  refine ⟨test_inv_fullFrame, by decide, ?_, by decide⟩
  unfold noResetWithin; decide
theorem test_witness_FrameLaw :
    ready.Inv ∧ ready.en = true ∧ (3000 : Tick).toNat < 2 ^ ready.cfg.width ∧ ready.cfg.isSync (3000 : Tick).toNat ∧
      (∀ p ∈ ([1000, 1100] : List Tick), ready.cfg.isPulse p.toNat) :=
  ⟨test_inv_ready, by decide, by decide, by decide, by intro p hp; fin_cases hp <;> decide⟩
theorem test_witness_GlitchedFrameLaw :
    ready.cfg.isGlitch (500 : Tick).toNat ∧ ∀ q ∈ ([1900, 2000, 500] : List Tick), ¬ ready.cfg.isSync q.toNat :=
  ⟨by decide, by intro q hq; fin_cases hq <;> decide⟩
theorem test_witness_NothingStoredBeforeFirstSync :
    ready.Inv ∧ ready.en = true ∧ ready.cursor = ready.nch ∧ ready.frameOk = false ∧
      (∀ d ∈ ([1500, 900, 2500] : List Tick), ¬ ready.cfg.isSync d.toNat) :=
  ⟨test_inv_ready, by decide, by decide, by decide, by intro d hd; fin_cases hd <;> decide⟩
theorem test_witness_EqualSequenceMeansOneFrame :
    noResetWithin 1 (withCapture 0x10010398 midFrame) ∧ publications 1 (withCapture 0x10010398 midFrame) = 0 ∧
      after State.seq (Host.Core.run Sys2Proof.core 1 (withCapture 0x10010398 midFrame)) = some midFrame.seq := by
  refine ⟨?_, by decide, by decide⟩
  unfold noResetWithin; decide
theorem test_witness_PseudoOperationsExpand : 16 ≤ 16 ∧ (8 : Nat) ≤ 16 := by decide

end Sys2Proof.Tests
end

section
/-! SUPPORT. Proofs about the configuration record (00_scope.md R6, R7). -/

namespace Sys2Proof

/-- The checked constraints of 00_scope.md R7, as propositions. -/
theorem Config.wf_iff (cfg : Config) :
    cfg.wf = true ↔
      1 ≤ cfg.width ∧ cfg.width ≤ 16 ∧ cfg.lowBound < cfg.highBound ∧ cfg.highBound ≤ cfg.syncBound ∧
        cfg.syncBound < 2 ^ cfg.width ∧ cfg.lowBound < cfg.neutral ∧ cfg.neutral < cfg.highBound := by
  simp only [Config.wf, Bool.and_eq_true, decide_eq_true_eq, and_assoc]

/-- `MAP_CFG[i] < NMAX` (00_scope.md R7) holds of every record, since an entry has 4 bits. -/
theorem Config.mapCfg_lt (cfg : Config) (i : Fin 16) : cfg.mapCfg[i].toNat < 16 :=
  cfg.mapCfg[i].isLt

end Sys2Proof

namespace Sys2Proof.Machine

/-- The record is checked before anything is fetched (00_scope.md R7). -/
theorem step_of_wf_eq_false {s : State} (h : s.cfg.wf = false) : step s = .refused .badConfig := by
  simp [step, h]

/-- Settles O10: the two constraints of R7 that `Config.wf` does not check hold of every record, `0 ≤ LOW_BOUND`
on naturals and `MAP_CFG[i] < NMAX` by `Config.mapCfg_lt`. -/
theorem illFormedRecordRefused : Obligations.IllFormedRecordRefused := by
  refine ⟨fun cfg => ?_, fun _ => step_of_wf_eq_false⟩
  rw [cfg.wf_iff]
  constructor
  · rintro ⟨hpos, hwidth, hlow, hhigh, hsync, hneutral, hneutral'⟩
    exact ⟨hpos, hwidth, Nat.zero_le _, hlow, hhigh, hsync, hneutral, hneutral', cfg.mapCfg_lt⟩
  · rintro ⟨hpos, hwidth, -, hlow, hhigh, hsync, hneutral, hneutral', -⟩
    exact ⟨hpos, hwidth, hlow, hhigh, hsync, hneutral, hneutral'⟩

end Sys2Proof.Machine
end

section
/-! SUPPORT. The operations each port's decoder can give (30_encoding.md R73, R80), and what delivers no word. -/

namespace Sys2Proof

theorem Instr.edge_or_onHostPort (i : Instr) : (∃ pol c, i = .edge pol c) ∨ i.onHostPort = true := by
  cases i with
  | edge pol c => exact .inl ⟨pol, c, rfl⟩
  | init | rdSlot | rdCh | wrCh | rdMap | rdSnap | rdSnapCh | rdSeq | rdStatus => exact .inr rfl

theorem requestIf_onHostPort {b : Bool} {j i : Instr} (hj : j.onHostPort = true) (h : requestIf b j = .request i) :
    i.onHostPort = true := by
  obtain ⟨-, rfl⟩ := (requestIf_request b j i).mp h
  exact hj

/-- The host port's decoder gives host operations only (30_encoding.md R80). -/
theorem decodeHost_onHostPort {w : Word} {i : Instr} (h : decodeHost w = .request i) : i.onHostPort = true := by
  simp only [decodeHost] at h
  split_ifs at h
  iterate 9 exact requestIf_onHostPort rfl h

/-- The capture port's decoder gives `width`-bit edges only (30_encoding.md R73). -/
theorem decodeCapture_eq_edge {width : Nat} {w : Word} {i : Instr} (h : decodeCapture width w = some i) :
    ∃ pol c, i = .edge pol c ∧ c.toNat < 2 ^ width := by
  unfold decodeCapture at h
  split at h
  · next hw =>
    simp only [Bool.and_eq_true, decide_eq_true_eq] at hw
    exact ⟨_, _, (Option.some.inj h).symm, hw.2⟩
  · cases h

theorem wordOfDelivery_eq_none {d : Delivery} (h : wordOfDelivery d = none) : d.wf = false := by
  unfold wordOfDelivery at h
  split at h
  · cases h
  · next hd =>
    rw [Bool.eq_false_iff]
    intro hwf
    simp only [Delivery.wf, Bool.and_eq_true, decide_eq_true_eq] at hwf
    obtain ⟨hlane, hlen⟩ := hwf
    match hb : d.bytes, hlen with
    | [b0, b1, b2, b3], _ => exact hd b0 b1 b2 b3 hlane hb

end Sys2Proof
end

section
/-! SUPPORT. What the next turn brings and what the step then is (20_memory.md R56). -/

namespace Sys2Proof.Machine

/-- The two things a capture word is (30_encoding.md R73, R80). -/
theorem readCapture_cases (width : Nat) (w : Word) :
    (∃ pol c, readCapture width w = .run (.edge pol c) ∧ c.toNat < 2 ^ width) ∨
    (decodeCapture width w = none ∧ readCapture width w = .refuse .noEvent) := by
  unfold readCapture
  cases h : decodeCapture width w with
  | none => exact .inr ⟨rfl, rfl⟩
  | some i =>
    obtain ⟨pol, c, rfl, hc⟩ := decodeCapture_eq_edge h
    exact .inl ⟨pol, c, rfl, hc⟩

/-- The three things a delivery is (20_memory.md R53, 41_host_port.md R130). -/
theorem readDelivery_cases (d : Delivery) :
    (∃ i, readDelivery d = .run i ∧ i.onHostPort = true) ∨
    (∃ w f, readDelivery d = .badRequest w f) ∨
    (d.wf = false ∧ readDelivery d = .refuse .partialWord) := by
  unfold readDelivery
  cases hw : wordOfDelivery d with
  | none => exact .inr (.inr ⟨wordOfDelivery_eq_none hw, rfl⟩)
  | some w =>
    cases hi : decodeHost w with
    | request i => exact .inl ⟨i, by simp [hi], decodeHost_onHostPort hi⟩
    | faulty f => exact .inr (.inl ⟨w, f, by simp [hi]⟩)

/-- What a fetch finds, by the turn at the head of the schedule (20_memory.md R56). -/
theorem fetch_cases (s : State) :
    (fetch s).1 = .idle ∨ (fetch s).1 = .reset ∨
    (∃ cs ds ts w rest, s.turns = ⟨.capture, cs, ds⟩ :: ts ∧ s.captureQueue ++ cs = w :: rest ∧
      (fetch s).1 = readCapture s.cfg.width w) ∨
    (∃ cs ds ts d rest, s.turns = ⟨.host, cs, ds⟩ :: ts ∧ s.hostQueue ++ ds = d :: rest ∧
      (fetch s).1 = readDelivery d) := by
  unfold fetch
  match ht : s.turns with
  | [] => exact .inl rfl
  | ⟨.resetPin, cs, ds⟩ :: ts => exact .inr (.inl rfl)
  | ⟨.capture, cs, ds⟩ :: ts =>
    cases hq : s.captureQueue ++ cs with
    | nil => left; simp [fetchCapture, hq]
    | cons w rest => exact .inr (.inr (.inl ⟨cs, ds, ts, w, rest, rfl, hq, by simp [fetchCapture, hq]⟩))
  | ⟨.host, cs, ds⟩ :: ts =>
    cases hq : s.hostQueue ++ ds with
    | nil => left; simp [fetchHost, hq]
    | cons d rest => exact .inr (.inr (.inr ⟨cs, ds, ts, d, rest, rfl, hq, by simp [fetchHost, hq]⟩))

/-- A fetch leaves the decoder's state and the host side (20_memory.md R56). -/
theorem fetch_keeps (s : State) : SameDecoder s (fetch s).2 ∧ SameHostSide s (fetch s).2 := by
  obtain ⟨ts, cq, hq, h⟩ := fetch_frame s
  simp [h, SameDecoder, SameHostSide]

/-! ### The step, by what the fetch finds -/

section
variable {s : State} (hwf : s.cfg.wf = true)
include hwf

theorem step_of_fetch_idle (h : (fetch s).1 = .idle) : step s = .next (fetch s).2 := by
  rw [step, if_pos hwf, show fetch s = (.idle, (fetch s).2) from Prod.ext h rfl]

theorem step_of_fetch_reset (h : (fetch s).1 = .reset) : step s = .next (assertReset (fetch s).2) := by
  rw [step, if_pos hwf, show fetch s = (.reset, (fetch s).2) from Prod.ext h rfl]

theorem step_of_fetch_run {i : Instr} (h : (fetch s).1 = .run i) : step s = exec i (fetch s).2 := by
  rw [step, if_pos hwf, show fetch s = (.run i, (fetch s).2) from Prod.ext h rfl]

theorem step_of_fetch_badRequest {w : Word} {f : FaultCode} (h : (fetch s).1 = .badRequest w f) :
    step s = .next (raiseFault w f (fetch s).2) := by
  rw [step, if_pos hwf, show fetch s = (.badRequest w f, (fetch s).2) from Prod.ext h rfl]

theorem step_of_fetch_refuse {r : Refusal} (h : (fetch s).1 = .refuse r) : step s = .refused r := by
  rw [step, if_pos hwf, show fetch s = (.refuse r, (fetch s).2) from Prod.ext h rfl]

end

end Sys2Proof.Machine
end

section
/-! SUPPORT. Pulse deltas, fault codes, NEUTRAL and the channel count as numbers (00_scope.md R7,
60_exceptions.md R160). -/

namespace Sys2Proof.Machine

theorem classify_eq_pulse_iff (cfg : Config) (d : Tick) : classify cfg d = .pulse ↔ cfg.isPulse d.toNat := by
  unfold classify
  split
  · next hp => exact iff_of_true rfl hp
  · next hp => exact iff_of_false (by split <;> simp) hp

/-- Every fault has a code from 1 to 8 (60_exceptions.md R160). -/
theorem codeOf_range (f : FaultCode) : 1 ≤ (codeOf f).toNat ∧ (codeOf f).toNat ≤ 8 := by
  cases f <;> decide

theorem neutralTick_toNat {cfg : Config} (h : cfg.wf = true) : (neutralTick cfg).toNat = cfg.neutral := by
  obtain ⟨-, hwidth, -, hhigh, hsync, -, hneutral⟩ := cfg.wf_iff.mp h
  have hpow : 2 ^ cfg.width ≤ 2 ^ 16 := Nat.pow_le_pow_right (by decide) hwidth
  rw [neutralTick, BitVec.toNat_ofNat, Nat.mod_eq_of_lt (by omega)]

/-- NEUTRAL is a plausible pulse width (00_scope.md R7). -/
theorem neutralTick_isPulse {cfg : Config} (h : cfg.wf = true) : cfg.isPulse (neutralTick cfg).toNat := by
  obtain ⟨-, -, -, -, -, hlow, hhigh⟩ := cfg.wf_iff.mp h
  rw [neutralTick_toNat h]
  exact ⟨hlow, hhigh⟩

theorem isPulse_lt_two_pow_width {cfg : Config} {d : Nat} (h : cfg.wf = true) (hd : cfg.isPulse d) :
    d < 2 ^ cfg.width := by
  obtain ⟨-, -, -, hhigh, hsync, -, -⟩ := cfg.wf_iff.mp h
  obtain ⟨-, hd⟩ := hd
  omega

/-- The channel count of an INIT that passes its checks fits NCH and CURSOR (41_host_port.md R131). -/
theorem setWidth_toNat_of_initCheck {n : BitVec 16} {s : State} (h : initCheck n s = none) :
    (n.setWidth 5).toNat = n.toNat := by
  obtain ⟨-, -, hle, -⟩ := (initCheck_none_iff n s).mp h
  rw [BitVec.toNat_setWidth]
  omega

end Sys2Proof.Machine
end

section
/-! SUPPORT. The STATUS view bit by bit (10_state.md R36), and RD_STATUS. -/

namespace Sys2Proof.Machine

/-- Bit by bit: the flags, CURSOR, NCH, ERR_CODE, and 0 between them. -/
theorem statusWord_bit (s : State) {i : Nat} (hi : i < 32) :
    (statusWord s).getLsbD i =
      if i = 0 then s.en
      else if i = 1 then s.inited
      else if i = 2 then s.cfgErr
      else if i = 3 then s.front
      else if i = 4 then s.frameOk
      else if i = 5 then s.hostErr
      else if i < 8 then false
      else if i < 16 then s.cursor.getLsbD (i - 8)
      else if i < 24 then s.nch.getLsbD (i - 16)
      else s.errCode.getLsbD (i - 24) := by
  change BitVec.getLsbD (w := 4 + 4 + 3 + 5 + 3 + 5 + 2 + 1 + 1 + 1 + 1 + 1 + 1) _ i = _
  simp only [statusWord, BitVec.getLsbD_append]
  interval_cases i <;> simp

theorem extractLsb'_eq_of_bits {n : Nat} {w : BitVec n} {start len : Nat} {x : BitVec len}
    (h : ∀ i < len, w.getLsbD (start + i) = x.getLsbD i) : w.extractLsb' start len = x := by
  apply BitVec.eq_of_getLsbD_eq
  intro i hi
  simp [hi, h i hi]

/-- Settles O37: the flags are bits of `statusWord_bit`, each field a run of its bits. -/
theorem rdStatusLayout : Obligations.RdStatusLayout := by
  intro s
  refine ⟨statusWord s, rfl, ?_, ?_, ?_, ?_, ?_, ?_, ?_, ?_, ?_, ?_, ?_, ?_, ?_⟩
  iterate 6 exact statusWord_bit s (by decide)
  all_goals
    apply extractLsb'_eq_of_bits
    intro i hi
    rw [statusWord_bit s (by omega)]
    interval_cases i <;> simp

end Sys2Proof.Machine
end

section
/-! SUPPORT. Every step keeps the invariant of 10_state.md R39, and under it no step faults. -/

namespace Sys2Proof.Machine

/-! ### States that meet the invariant by their clear registers -/

/-- An unconfigured state whose registers are clear meets the invariant whatever its arrays hold. -/
theorem inv_of_clear {s : State} (hwf : s.cfg.wf = true) (hwidths : s.WidthsHold) (hinited : s.inited = false)
    (hclear : s.UnconfiguredIsClear) (herror : s.ErrorRegisterLegal) : s.Inv := by
  obtain ⟨hen, hcfgErr, hnch, hcursor, -, -, hframeOk⟩ := hclear hinited
  exact {
    cfg_wf := hwf
    widths := hwidths
    cursor_le := by simp [State.CursorBounded, hcursor]
    unconfigured := hclear
    enabled := by simp [State.EnabledIsConfigured, hen, hcfgErr, hinited]
    channels := by simp [State.ChannelsLegal, hinited]
    slots := by simp [State.SlotsPlausible, hinited]
    error_register := herror
    mirrored := by simp [State.FrameMirrored, hframeOk] }

/-- Settles O44: the drawn values are 16 bits wide, as the default record's `W` is. -/
theorem resetMeetsInvariant : Obligations.ResetMeetsInvariant :=
  inv_of_clear rfl
    ⟨(Config.lastRiseDraw 0).isLt, fun i =>
      ⟨State.reset.live[i].isLt, State.reset.snap0[i].isLt, State.reset.snap1[i].isLt⟩⟩
    rfl (fun _ => ⟨rfl, rfl, rfl, rfl, rfl, rfl, rfl⟩) ⟨by decide, by decide⟩

/-- The reset step meets the invariant from any state with a well-formed record (10_state.md R38). -/
theorem assertReset_inv {s : State} (hwf : s.cfg.wf = true) : (assertReset s).Inv :=
  inv_of_clear hwf
    ⟨truncTick_lt _ _, fun i => by
      simp only [assertReset_live, assertReset_snap0, assertReset_snap1, assertReset_cfg, bankOf_get]
      exact ⟨truncTick_lt _ _, truncTick_lt _ _, truncTick_lt _ _⟩⟩
    rfl (fun _ => ⟨rfl, rfl, rfl, rfl, rfl, rfl, rfl⟩) ⟨by simp, by simp⟩

/-! ### Updates that keep the invariant -/

/-- The invariant speaks of the decoder's state and the error registers alone. -/
theorem inv_of_sameDecoder {s t : State} (h : s.Inv) (hsame : SameDecoder s t) (herror : t.ErrorRegisterLegal) :
    t.Inv := by
  cases s
  cases t
  obtain ⟨rfl, rfl, rfl, rfl, rfl, rfl, rfl, rfl, rfl, rfl, rfl, rfl, rfl, rfl⟩ := hsame
  exact { h with error_register := herror }

theorem fetch_inv {s : State} (h : s.Inv) : (fetch s).2.Inv := by
  obtain ⟨hdecoder, hhostErr, herrCode, -, -⟩ := fetch_keeps s
  refine inv_of_sameDecoder h hdecoder ?_
  rw [State.ErrorRegisterLegal, hhostErr, herrCode]
  exact h.error_register

theorem respond_inv {s : State} (h : s.Inv) (v : Word) : (respond v s).Inv :=
  { h with }

theorem raiseFault_inv {s : State} (h : s.Inv) (w : Word) (f : FaultCode) : (raiseFault w f s).Inv :=
  { h with error_register := ⟨(codeOf_range f).2, by cases f <;> simp [codeOf]⟩ }

/-- A first INIT meets the invariant: every slot is NEUTRAL and the map is the record's, checked against `n`. -/
theorem initialise_inv {s : State} (h : s.Inv) {n : BitVec 16} (hcheck : initCheck n s = none) (capOk : Bool) :
    (initialise capOk n s).Inv := by
  obtain ⟨-, hpos, hle, hmap⟩ := (initCheck_none_iff n s).mp hcheck
  have hn := setWidth_toNat_of_initCheck hcheck
  have hpulse := neutralTick_isPulse h.cfg_wf
  have hwidth := isPulse_lt_two_pow_width h.cfg_wf hpulse
  have hslot : ∀ i : Fin 16, (Vector.replicate 16 (neutralTick s.cfg))[i] = neutralTick s.cfg := by simp
  exact {
    cfg_wf := h.cfg_wf
    widths := ⟨h.widths.1, fun i => by
      simp only [initialise_live, initialise_snap0, initialise_snap1, initialise_cfg, hslot]
      exact ⟨hwidth, hwidth, hwidth⟩⟩
    cursor_le := le_refl (n.setWidth 5).toNat
    unconfigured := by simp [State.UnconfiguredIsClear]
    enabled := by cases capOk <;> simp [State.EnabledIsConfigured]
    channels := fun _ => by
      rw [initialise_nch, hn]
      exact ⟨hpos, hle, (mapFits_iff _ _).mp hmap⟩
    slots := fun _ i => by
      simp only [initialise_live, initialise_snap0, initialise_snap1, initialise_cfg, hslot]
      exact ⟨hpulse, hpulse, hpulse⟩
    error_register := h.error_register
    mirrored := by simp [State.FrameMirrored] }

theorem hostRequest_inv {i : Instr} {s t : State} (h : s.Inv) (hi : i.onHostPort = true) (ht : exec i s = .next t) :
    t.Inv := by
  obtain ⟨f, rfl⟩ | ⟨capOk, n, -, hcheck, rfl⟩ | ⟨-, v, rfl⟩ := hostRequest_cases hi ht
  · exact raiseFault_inv h _ f
  · exact respond_inv (initialise_inv h hcheck capOk) 0
  · exact respond_inv h v

/-! ### Edges keep the invariant -/

/-- A stored pulse advances CURSOR without wrapping. -/
theorem store_cursor_toNat {s : State} (h : s.cursor.toNat < s.nch.toNat) (d : Tick) :
    (store d s).cursor.toNat = s.cursor.toNat + 1 := by
  have hnch := s.nch.isLt
  rw [store_cursor]
  bv_omega

/-- What holds of entry `i` of every bank and of the stored value holds of entry `i` of every bank after the store. -/
theorem store_banks {P : Tick → Prop} {d : Tick} (hd : P d) {s : State} (i : Fin 16)
    (h : P s.live[i] ∧ P s.snap0[i] ∧ P s.snap1[i]) :
    P (store d s).live[i] ∧ P (store d s).snap0[i] ∧ P (store d s).snap1[i] := by
  obtain ⟨hlive, hsnap0, hsnap1⟩ := h
  have hwrite : ∀ b : Bank, P b[i] → P (writeBank b s.cursor.toNat d)[i] := by
    intro b hb
    rw [writeBank_get]
    split
    · exact hd
    · exact hb
  rw [store_live, store_snap0, store_snap1]
  cases s.front with
  | false => exact ⟨hwrite _ hlive, hsnap0, hwrite _ hsnap1⟩
  | true => exact ⟨hwrite _ hlive, hwrite _ hsnap0, hsnap1⟩

section
variable {s : State} (h : s.Inv) (hinited : s.inited = true)
include h hinited

theorem store_inv {d : Tick} (hd : s.cfg.isPulse d.toNat) (hlt : s.cursor.toNat < s.nch.toNat) : (store d s).Inv :=
  have hcursor := store_cursor_toNat hlt d
  { h with
    widths := ⟨h.widths.1, fun i =>
      store_banks (P := fun v => v.toNat < 2 ^ s.cfg.width) (isPulse_lt_two_pow_width h.cfg_wf hd) i (h.widths.2 i)⟩
    cursor_le := by rw [State.CursorBounded, hcursor, store_nch]; omega
    unconfigured := by simp [State.UnconfiguredIsClear, hinited]
    slots := fun hi i => store_banks (P := fun v => s.cfg.isPulse v.toNat) hd i (h.slots hi i)
    mirrored := fun hok i hi => by
      rw [backBank_store, store_live, writeBank_get, writeBank_get]
      split
      · rfl
      · exact h.mirrored hok i (by omega) }

theorem sync_inv : (sync s).Inv := by
  have opened (front : Bool) (seq : BitVec 32) : (openFrame { s with front := front, seq := seq }).Inv :=
    { h with
      cursor_le := by simp [State.CursorBounded]
      unconfigured := by simp [State.UnconfiguredIsClear, hinited]
      mirrored := by simp [State.FrameMirrored] }
  unfold sync
  split
  · exact opened (!s.front) (s.seq + 1)
  · exact opened s.front s.seq

theorem glitch_inv : (glitch s).Inv :=
  { h with
    cursor_le := le_refl s.nch.toNat
    unconfigured := by simp [State.UnconfiguredIsClear, hinited]
    mirrored := by simp [State.FrameMirrored] }

theorem takeDelta_inv {d : Tick} {t : State} (ht : takeDelta d s = .next t) : t.Inv := by
  obtain ⟨hclass, hlt, -, rfl⟩ | ⟨-, -, rfl⟩ | ⟨-, rfl⟩ | ⟨-, rfl⟩ := takeDelta_cases ht
  · exact store_inv h hinited ((classify_eq_pulse_iff _ _).mp hclass) hlt
  · exact h
  · exact sync_inv h hinited
  · exact glitch_inv h hinited

end

/-- A sync writes no live slot (40_edge_decoder.md R107). -/
@[simp] theorem sync_live (s : State) : (sync s).live = s.live := by
  unfold sync
  split <;> rfl

/-- Taking a delta leaves the record and the host side (40_edge_decoder.md R100). -/
theorem takeDelta_keeps {d : Tick} {s t : State} (ht : takeDelta d s = .next t) :
    t.cfg = s.cfg ∧ SameHostSide s t := by
  obtain ⟨-, -, -, rfl⟩ | ⟨-, -, rfl⟩ | ⟨-, rfl⟩ | ⟨-, rfl⟩ := takeDelta_cases ht
  · exact ⟨rfl, rfl, rfl, rfl, rfl⟩
  · exact ⟨rfl, rfl, rfl, rfl, rfl⟩
  · unfold sync
    split <;> exact ⟨rfl, rfl, rfl, rfl, rfl⟩
  · exact ⟨rfl, rfl, rfl, rfl, rfl⟩

theorem anchor_inv {s : State} (h : s.Inv) {c : Tick} (hc : c.toNat < 2 ^ s.cfg.width) : (anchor c s).Inv :=
  { h with widths := ⟨hc, h.widths.2⟩ }

theorem execEdge_inv {pol : Bool} {c : Tick} {s t : State} (h : s.Inv) (ht : exec (.edge pol c) s = .next t) :
    t.Inv := by
  obtain ⟨hc, ⟨-, rfl⟩ | ⟨hen, -, u, hu, rfl⟩⟩ := execEdge_cases ht
  · exact h
  · obtain ⟨hinited, -⟩ := h.enabled.1 hen
    refine anchor_inv (takeDelta_inv h hinited hu) ?_
    rw [(takeDelta_keeps hu).1]
    exact hc

theorem exec_inv {i : Instr} {s t : State} (h : s.Inv) (ht : exec i s = .next t) : t.Inv := by
  obtain ⟨pol, c, rfl⟩ | hi := i.edge_or_onHostPort
  · exact execEdge_inv h ht
  · exact hostRequest_inv h hi ht

/-- Settles O45: a step is an idle fetch, a reset, an operation or a fault, and each keeps the invariant. -/
theorem stepKeepsInvariant : Obligations.StepKeepsInvariant := by
  intro s t h ht
  have hfetch := fetch_inv h
  obtain ⟨-, ⟨-, rfl⟩ | ⟨-, rfl⟩ | ⟨i, -, hi⟩ | ⟨w, f, -, rfl⟩⟩ := step_cases ht
  · exact hfetch
  · exact assertReset_inv hfetch.cfg_wf
  · exact exec_inv hfetch hi
  · exact raiseFault_inv hfetch w f

/-! ### No fault under the invariant -/

/-- Under the invariant a pulse with `CURSOR < NCH` has a slot (10_state.md R39 I1, I4). -/
theorem cursor_lt_of_inv {s : State} (h : s.Inv) (hinited : s.inited = true) (hlt : s.cursor.toNat < s.nch.toNat) :
    s.cursor.toNat < 16 := by
  obtain ⟨-, hle, -⟩ := h.channels hinited
  omega

/-- An edge the capture port can carry is performed (40_edge_decoder.md R111). -/
theorem execEdge_next {s : State} (h : s.Inv) (pol : Bool) {c : Tick} (hc : c.toNat < 2 ^ s.cfg.width) :
    ∃ t, exec (.edge pol c) s = .next t := by
  change ∃ t, execEdge pol c s = .next t
  rw [execEdge, if_pos hc]
  split
  · exact ⟨s, rfl⟩
  · next hen =>
    split
    · exact ⟨s, rfl⟩
    · obtain ⟨hinited, -⟩ := h.enabled.1 (Bool.eq_true_of_not_eq_false hen)
      obtain ⟨u, hu⟩ := takeDelta_next (delta s.cfg.width c s.lastRise) (cursor_lt_of_inv h hinited)
      exact ⟨anchor c u, by rw [risingEdge, hu]⟩

/-- Settles O46: what a fetch finds goes on, except for the two malformed inputs. -/
theorem invariantRulesOutFaults : Obligations.InvariantRulesOutFaults := by
  intro s h
  have hwf := h.cfg_wf
  obtain hidle | hreset | ⟨cs, ds, ts, w, rest, hts, hq, hf⟩ | ⟨cs, ds, ts, d, rest, hts, hq, hf⟩ :=
    fetch_cases s
  · exact .inl ⟨_, step_of_fetch_idle hwf hidle⟩
  · exact .inl ⟨_, step_of_fetch_reset hwf hreset⟩
  · obtain ⟨pol, c, hread, hc⟩ | ⟨hnone, hread⟩ := readCapture_cases s.cfg.width w
    · left
      rw [step_of_fetch_run hwf (hf.trans hread)]
      refine execEdge_next (fetch_inv h) pol ?_
      obtain ⟨⟨hcfg, -⟩, -⟩ := fetch_keeps s
      rw [hcfg]
      exact hc
    · exact .inr (.inl ⟨step_of_fetch_refuse hwf (hf.trans hread), cs, ds, ts, w, rest, hts, hq, hnone⟩)
  · obtain ⟨i, hread, hi⟩ | ⟨w, f, hread⟩ | ⟨hwhole, hread⟩ := readDelivery_cases d
    · left
      rw [step_of_fetch_run hwf (hf.trans hread)]
      exact hostRequest_next hi _
    · exact .inl ⟨_, step_of_fetch_badRequest hwf (hf.trans hread)⟩
    · exact .inr (.inr ⟨step_of_fetch_refuse hwf (hf.trans hread), cs, ds, ts, d, rest, hts, hq, hwhole⟩)

end Sys2Proof.Machine
end

section
/-! SUPPORT. No host request can tell LAST_RISE or the back bank (10_state.md R37). -/

namespace Sys2Proof.Machine

/-- A change of state that no host read can tell: it leaves what the reads look at, and commutes with how a request
ends (10_state.md R37). -/
structure HostBlind (f : State → State) : Prop where
  inited : ∀ s, (f s).inited = s.inited
  nch : ∀ s, (f s).nch = s.nch
  live : ∀ s, (f s).live = s.live
  map : ∀ s, (f s).map = s.map
  frontBank : ∀ s, frontBank (f s) = frontBank s
  seq : ∀ s, (f s).seq = s.seq
  status : ∀ s, statusWord (f s) = statusWord s
  respond : ∀ v s, respond v (f s) = f (respond v s)
  raiseFault : ∀ w c s, raiseFault w c (f s) = f (raiseFault w c s)

theorem endRequest_of_hostBlind {f : State → State} (hf : HostBlind f) (i : Instr) (check : Option FaultCode)
    (done s : State) : endRequest i check (f done) (f s) = mapNext f (endRequest i check done s) := by
  cases check with
  | none => rfl
  | some c => rw [endRequest_some, endRequest_some, hf.raiseFault, mapNext]

theorem indexCheck_of_hostBlind {f : State → State} (hf : HostBlind f) (outOfRange : FaultCode) (idx : Index)
    (s : State) : indexCheck outOfRange idx (f s) = indexCheck outOfRange idx s := by
  rw [indexCheck, indexCheck, hf.inited, hf.nch]

/-- Every host operation but INIT runs alike under a change that no host read can tell. -/
theorem exec_of_hostBlind {f : State → State} (hf : HostBlind f) {i : Instr} (hi : i.onHostPort = true)
    (hinit : ∀ capOk n, i ≠ .init capOk n) (s : State) : exec i (f s) = mapNext f (exec i s) := by
  cases i with
  | edge => simp [Instr.onHostPort] at hi
  | init capOk n => exact absurd rfl (hinit capOk n)
  | wrCh idx v => simp only [exec, execWrCh, hf.respond, mapNext]
  | rdSeq => simp only [exec, execRdSeq, hf.seq, hf.respond, mapNext]
  | rdStatus => simp only [exec, execRdStatus, hf.status, hf.respond, mapNext]
  | rdSlot idx =>
    simp only [exec, execRdSlot, indexCheck_of_hostBlind hf, hf.live, hf.respond, endRequest_of_hostBlind hf]
  | rdCh idx =>
    simp only [exec, execRdCh, indexCheck_of_hostBlind hf, hf.live, hf.map, hf.respond, endRequest_of_hostBlind hf]
  | rdMap idx =>
    simp only [exec, execRdMap, indexCheck_of_hostBlind hf, hf.map, hf.respond, endRequest_of_hostBlind hf]
  | rdSnap idx =>
    simp only [exec, execRdSnap, indexCheck_of_hostBlind hf, hf.frontBank, hf.respond, endRequest_of_hostBlind hf]
  | rdSnapCh idx =>
    simp only [exec, execRdSnapCh, indexCheck_of_hostBlind hf, hf.frontBank, hf.map, hf.respond,
      endRequest_of_hostBlind hf]

theorem hostBlind_lastRise (x : Tick) : HostBlind fun s => { s with lastRise := x } := by
  constructor <;> intros <;> rfl

/-- INIT neither reads nor writes LAST_RISE (41_host_port.md R131). -/
theorem execInit_lastRise (capOk : Bool) (n : BitVec 16) (x : Tick) (s : State) :
    exec (.init capOk n) { s with lastRise := x } =
      mapNext (fun t => { t with lastRise := x }) (exec (.init capOk n) s) :=
  endRequest_of_hostBlind (hostBlind_lastRise x) _ (initCheck n s) (respond 0 (initialise capOk n s)) s

/-- `withBackBank` as one update of both snapshot banks. -/
theorem withBackBank_eq (s : State) (b : Bank) :
    s.withBackBank b =
      { s with snap0 := if s.front then b else s.snap0, snap1 := if s.front then s.snap1 else b } := by
  cases h : s.front <;> simp [State.withBackBank, h]

theorem hostBlind_backBank (b : Bank) : HostBlind fun s => s.withBackBank b := by
  simp only [withBackBank_eq]
  exact {
    inited := fun _ => rfl
    nch := fun _ => rfl
    live := fun _ => rfl
    map := fun _ => rfl
    frontBank := fun s => by cases h : s.front <;> simp [frontBank, h]
    seq := fun _ => rfl
    status := fun _ => rfl
    respond := fun _ _ => rfl
    raiseFault := fun _ _ _ => rfl }

/-- Settles O41: LAST_RISE and the back bank are changes no host read can tell, and INIT leaves LAST_RISE alone. -/
theorem hostCannotReadHiddenState : Obligations.HostCannotReadHiddenState := by
  intro s i hi
  constructor
  · intro x
    cases i with
    | init capOk n => exact execInit_lastRise capOk n x s
    | edge | rdSlot | rdCh | wrCh | rdMap | rdSnap | rdSnapCh | rdSeq | rdStatus =>
      exact exec_of_hostBlind (hostBlind_lastRise x) hi (by simp) s
  · exact fun b hinit => exec_of_hostBlind (hostBlind_backBank b) hi hinit s

end Sys2Proof.Machine
end

section
/-! SUPPORT. The error registers move with the fault record (10_state.md R33, R34, R40). -/

namespace Sys2Proof.Machine

/-- The error registers and the fault record move together: neither changes, or an entry is added and its code
written (10_state.md R33, R34, R40). -/
def ErrorsFollowRecord (s t : State) : Prop :=
  (t.hostErr = s.hostErr ∧ t.errCode = s.errCode ∧ t.faultRecord = s.faultRecord) ∨
    (t.hostErr = true ∧ ∃ e, t.faultRecord = s.faultRecord ++ [e] ∧ t.errCode = codeOf e.code)

theorem raiseFault_errorsFollowRecord (w : Word) (f : FaultCode) (s : State) :
    ErrorsFollowRecord s (raiseFault w f s) :=
  .inr ⟨rfl, ⟨w, f⟩, rfl, rfl⟩

/-- EDGE leaves the host side (40_edge_decoder.md R111). -/
theorem execEdge_sameHostSide {pol : Bool} {c : Tick} {s t : State} (ht : exec (.edge pol c) s = .next t) :
    SameHostSide s t := by
  obtain ⟨-, ⟨-, rfl⟩ | ⟨-, -, u, hu, rfl⟩⟩ := execEdge_cases ht
  · exact ⟨rfl, rfl, rfl, rfl⟩
  · exact (takeDelta_keeps hu).2

theorem exec_errorsFollowRecord {i : Instr} {s t : State} (ht : exec i s = .next t) : ErrorsFollowRecord s t := by
  obtain ⟨pol, c, rfl⟩ | hi := i.edge_or_onHostPort
  · obtain ⟨hhostErr, herrCode, -, hrecord⟩ := execEdge_sameHostSide ht
    exact .inl ⟨hhostErr, herrCode, hrecord⟩
  · obtain ⟨f, rfl⟩ | ⟨capOk, n, -, -, rfl⟩ | ⟨-, v, rfl⟩ := hostRequest_cases hi ht
    · exact raiseFault_errorsFollowRecord _ f s
    · exact .inl ⟨rfl, rfl, rfl⟩
    · exact .inl ⟨rfl, rfl, rfl⟩

/-- A step is a reset, which keeps the fault record, or moves the error registers with it. -/
theorem step_errorsFollowRecord {s t : State} (ht : step s = .next t) :
    ((fetch s).1 = .reset ∧ t.faultRecord = s.faultRecord) ∨ ErrorsFollowRecord s t := by
  obtain ⟨-, hhostErr, herrCode, -, hrecord⟩ := fetch_keeps s
  rw [ErrorsFollowRecord, ← hhostErr, ← herrCode, ← hrecord]
  obtain ⟨-, ⟨-, rfl⟩ | ⟨hreset, rfl⟩ | ⟨i, -, hi⟩ | ⟨w, f, -, rfl⟩⟩ := step_cases ht
  · exact .inr (.inl ⟨rfl, rfl, rfl⟩)
  · exact .inl ⟨hreset, rfl⟩
  · exact .inr (exec_errorsFollowRecord hi)
  · exact .inr (raiseFault_errorsFollowRecord w f _)

/-- Settles O47: a reset keeps the record, and any other step adds at most one entry. -/
theorem faultRecordOnlyGrows : Obligations.FaultRecordOnlyGrows := by
  intro s t ht
  obtain ⟨-, hrecord⟩ | ⟨-, -, hrecord⟩ | ⟨-, e, hrecord, -⟩ := step_errorsFollowRecord ht
  · exact .inl hrecord
  · exact .inl hrecord
  · exact .inr ⟨e, hrecord⟩

/-- Settles O48: without a reset turn, `ErrorsFollowRecord` is all a step can do. -/
theorem errorRegistersTellLastFault : Obligations.ErrorRegistersTellLastFault := by
  intro s t hno ht
  exact (step_errorsFollowRecord ht).resolve_left fun ⟨hreset, _⟩ => fetch_ne_reset hno hreset

end Sys2Proof.Machine
end

section
/-! SUPPORT. The values after INIT (10_state.md R38), and what changes a live slot after it (R24). -/

namespace Sys2Proof.Machine

/-! ### Reset and INIT -/

/-- An INIT that records no fault passed its checks. -/
theorem execInit_of_sameRecord {capOk : Bool} {n : BitVec 16} {s t : State} (ht : exec (.init capOk n) s = .next t)
    (hrecord : t.faultRecord = s.faultRecord) :
    initCheck n s = none ∧ t = respond 0 (initialise capOk n s) := by
  obtain ⟨f, -, rfl⟩ | h := endRequest_cases ht
  · simp at hrecord
  · exact h

/-- Settles O15: an INIT without a fault leaves `initialise`, and its count fits NCH and CURSOR. -/
theorem resetAndInitValues : Obligations.ResetAndInitValues := by
  refine ⟨⟨rfl, rfl, rfl, rfl, rfl, rfl, rfl, rfl, rfl, rfl⟩, fun s t capOk n ht hrecord => ?_⟩
  obtain ⟨hcheck, rfl⟩ := execInit_of_sameRecord ht hrecord
  have hn := setWidth_toNat_of_initCheck hcheck
  have hslot : ∀ i : Fin 16, (Vector.replicate 16 (neutralTick s.cfg))[i] = BitVec.ofNat 16 s.cfg.neutral := by
    simp [neutralTick]
  exact ⟨rfl, hn, hn, fun i => ⟨hslot i, rfl, hslot i, hslot i⟩, rfl, rfl, rfl, rfl, rfl, rfl, rfl, rfl⟩

/-! ### Live slots -/

/-- The pulse that changes a live slot (10_state.md R24): it goes to CURSOR, below NCH, and is the time since the
last rise. -/
def PulseStoredAt (i : Fin 16) (s t : State) : Prop :=
  i.val = s.cursor.toNat ∧ s.cursor.toNat < s.nch.toNat ∧ t.cursor.toNat = s.cursor.toNat + 1 ∧
    s.cfg.isPulse (t.live[i]).toNat ∧ t.live[i] = delta s.cfg.width t.lastRise s.lastRise

theorem takeDelta_live_change {d : Tick} {s t : State} (ht : takeDelta d s = .next t) {i : Fin 16}
    (hne : t.live[i] ≠ s.live[i]) :
    i.val = s.cursor.toNat ∧ s.cursor.toNat < s.nch.toNat ∧ t.cursor.toNat = s.cursor.toNat + 1 ∧
      s.cfg.isPulse d.toNat ∧ t.live[i] = d := by
  obtain ⟨hclass, hlt, -, rfl⟩ | ⟨-, -, rfl⟩ | ⟨-, rfl⟩ | ⟨-, rfl⟩ := takeDelta_cases ht
  · rw [store_live, writeBank_get] at hne ⊢
    split at hne
    · next hi => exact ⟨hi, hlt, store_cursor_toNat hlt d, (classify_eq_pulse_iff _ _).mp hclass, if_pos hi⟩
    · exact absurd rfl hne
  · exact absurd rfl hne
  · exact absurd (by rw [sync_live]) hne
  · exact absurd rfl hne

theorem execEdge_live_change {pol : Bool} {c : Tick} {s t : State} (ht : exec (.edge pol c) s = .next t) {i : Fin 16}
    (hne : t.live[i] ≠ s.live[i]) : PulseStoredAt i s t := by
  obtain ⟨-, ⟨-, rfl⟩ | ⟨-, -, u, hu, rfl⟩⟩ := execEdge_cases ht
  · exact absurd rfl hne
  · obtain ⟨hi, hlt, hcursor, hpulse, hlive⟩ := takeDelta_live_change hu hne
    exact ⟨hi, hlt, hcursor, by rw [anchor_live, hlive]; exact hpulse, hlive⟩

/-- Once initialised, no host request writes the live bank (60_exceptions.md R168). -/
theorem hostRequest_live {i : Instr} {s t : State} (hi : i.onHostPort = true) (hinited : s.inited = true)
    (ht : exec i s = .next t) : t.live = s.live := by
  obtain ⟨f, rfl⟩ | ⟨capOk, n, -, hcheck, -⟩ | ⟨-, v, rfl⟩ := hostRequest_cases hi ht
  · rfl
  · obtain ⟨hfalse, -⟩ := (initCheck_none_iff n s).mp hcheck
    exact absurd (hfalse.symm.trans hinited) Bool.false_ne_true
  · rfl

/-- Settles O50: of all a step can do short of reset, only an edge changes the live bank after INIT. -/
theorem liveSlotsChangeOnlyByPulse : Obligations.LiveSlotsChangeOnlyByPulse := by
  intro s t i hinited _ hno ht hne
  obtain ⟨hcfg, hlastRise, hcursor, hnch, hlive, -, -, -, -, -, -, -, hinited', -⟩ := (fetch_keeps s).1
  rw [← hinited'] at hinited
  rw [← hlive] at hne
  change PulseStoredAt i s t
  rw [PulseStoredAt, ← hcfg, ← hlastRise, ← hcursor, ← hnch]
  obtain ⟨-, ⟨-, rfl⟩ | ⟨hreset, -⟩ | ⟨j, -, hj⟩ | ⟨w, f, -, rfl⟩⟩ := step_cases ht
  · exact absurd rfl hne
  · exact absurd hreset (fetch_ne_reset hno)
  · obtain ⟨pol, c, rfl⟩ | hport := j.edge_or_onHostPort
    · exact execEdge_live_change hj hne
    · exact absurd (by rw [hostRequest_live hport hinited hj]) hne
  · exact absurd rfl hne

end Sys2Proof.Machine
end

section
/-! SUPPORT. What an operation leaves: the record, the ports and the schedule. No step changes the record
(20_memory.md R62, 00_scope.md R6). -/

namespace Sys2Proof.Machine

theorem takeDelta_sameEnvironment {d : Tick} {s t : State} (ht : takeDelta d s = .next t) : SameEnvironment s t := by
  obtain ⟨-, -, -, rfl⟩ | ⟨-, -, rfl⟩ | ⟨-, rfl⟩ | ⟨-, rfl⟩ := takeDelta_cases ht
  · exact ⟨rfl, rfl, rfl, rfl⟩
  · exact ⟨rfl, rfl, rfl, rfl⟩
  · unfold sync
    split <;> exact ⟨rfl, rfl, rfl, rfl⟩
  · exact ⟨rfl, rfl, rfl, rfl⟩

/-- An operation touches neither the record nor the ports nor the schedule. -/
theorem exec_keeps {i : Instr} {s t : State} (ht : exec i s = .next t) : t.cfg = s.cfg ∧ SameEnvironment s t := by
  obtain ⟨pol, c, rfl⟩ | hi := i.edge_or_onHostPort
  · obtain ⟨-, ⟨-, rfl⟩ | ⟨-, -, u, hu, rfl⟩⟩ := execEdge_cases ht
    · exact ⟨rfl, rfl, rfl, rfl, rfl⟩
    · obtain ⟨hcfg, -⟩ := takeDelta_keeps hu
      obtain ⟨hcapture, hhost, hturns, hdraws⟩ := takeDelta_sameEnvironment hu
      exact ⟨hcfg, hcapture, hhost, hturns, hdraws⟩
  · obtain ⟨f, rfl⟩ | ⟨capOk, n, -, -, rfl⟩ | ⟨-, v, rfl⟩ := hostRequest_cases hi ht
    · exact ⟨rfl, rfl, rfl, rfl, rfl⟩
    · exact ⟨rfl, rfl, rfl, rfl, rfl⟩
    · exact ⟨rfl, rfl, rfl, rfl, rfl⟩

/-- Settles O49: neither the fetch nor what it finds to do writes the record. -/
theorem configurationNeverChanges : Obligations.ConfigurationNeverChanges := by
  intro s t ht
  obtain ⟨hcfg, -⟩ := (fetch_keeps s).1
  rw [← hcfg]
  obtain ⟨-, ⟨-, rfl⟩ | ⟨-, rfl⟩ | ⟨i, -, hi⟩ | ⟨w, f, -, rfl⟩⟩ := step_cases ht
  · rfl
  · rfl
  · exact (exec_keeps hi).1
  · rfl

end Sys2Proof.Machine
end

section
/-! SUPPORT. The next turn taken off the schedule, and the word at the head of a port (20_memory.md R52, R53, R56, R59). -/

namespace Sys2Proof

/-- A delivery that is not four bytes from lane 0 delivers no word (20_memory.md R53). -/
theorem wordOfDelivery_of_wf_eq_false {d : Delivery} (h : d.wf = false) : wordOfDelivery d = none := by
  unfold wordOfDelivery
  split
  · next hlane hbytes => simp [Delivery.wf, hlane, hbytes] at h
  · rfl

/-- Four byte lanes, lane 0 least significant, are the word (20_memory.md R52). -/
theorem wordOfDelivery_deliveryOf (w : Word) : wordOfDelivery (deliveryOf w) = some w := by
  simp only [wordOfDelivery, deliveryOf, Option.some.injEq]
  apply BitVec.eq_of_getLsbD_eq
  intro i hi
  simp only [BitVec.getLsbD_append, BitVec.getLsbD_extractLsb']
  interval_cases i <;> simp

end Sys2Proof

namespace Sys2Proof.Machine

theorem readDelivery_of_request {d : Delivery} {w : Word} {i : Instr} (hw : wordOfDelivery d = some w)
    (hi : decodeHost w = .request i) : readDelivery d = .run i := by
  simp only [readDelivery, hw, hi]

theorem readDelivery_of_wf_eq_false {d : Delivery} (h : d.wf = false) : readDelivery d = .refuse .partialWord := by
  simp only [readDelivery, wordOfDelivery_of_wf_eq_false h]

theorem readCapture_of_some {width : Nat} {w : Word} {i : Instr} (h : decodeCapture width w = some i) :
    readCapture width w = .run i := by
  simp only [readCapture, h]

/-- A host turn takes the oldest delivery off the host port, behind which its own arrive (20_memory.md R56, R59). -/
theorem fetch_of_host {s : State} {cs : List Word} {ds rest : List Delivery} {ts : List Turn} {d : Delivery}
    (hts : s.turns = ⟨.host, cs, ds⟩ :: ts) (hq : s.hostQueue ++ ds = d :: rest) :
    fetch s =
      (readDelivery d, { s with turns := ts, captureQueue := s.captureQueue ++ cs, hostQueue := rest }) := by
  simp [fetch, hts, fetchHost, arrive, hq]

/-- A capture turn takes the oldest edge word off the capture port (20_memory.md R56). -/
theorem fetch_of_capture {s : State} {cs rest : List Word} {ds : List Delivery} {ts : List Turn} {w : Word}
    (hts : s.turns = ⟨.capture, cs, ds⟩ :: ts) (hq : s.captureQueue ++ cs = w :: rest) :
    fetch s =
      (readCapture s.cfg.width w, { s with turns := ts, captureQueue := rest, hostQueue := s.hostQueue ++ ds }) := by
  simp [fetch, hts, fetchCapture, arrive, hq]

/-- Settles O7: `fetch_of_host` names the operation and the state it runs on. -/
theorem hostStepRunsDecoded : Obligations.HostStepRunsDecoded := by
  intro s cs ds rest ts d w i hwf hts hq hw hi
  have hf := fetch_of_host hts hq
  have hrun : (fetch s).1 = .run i := by rw [hf, readDelivery_of_request hw hi]
  rw [step_of_fetch_run hwf hrun, hf]

/-- Settles O8: `fetch_of_capture` names the event and the state it runs on. -/
theorem captureStepRunsDecoded : Obligations.CaptureStepRunsDecoded := by
  intro s cs rest ds ts w i hwf hts hq hi
  have hf := fetch_of_capture hts hq
  have hrun : (fetch s).1 = .run i := by rw [hf, readCapture_of_some hi]
  rw [step_of_fetch_run hwf hrun, hf]

/-- Settles O11: the fetch finds a delivery of no word, and four lanes put together again are the word. -/
theorem partialDeliveryRefused : Obligations.PartialDeliveryRefused := by
  refine ⟨fun s cs ds rest ts d hwf hts hq hpartial => ?_, fun w => ⟨rfl, wordOfDelivery_deliveryOf w⟩⟩
  have hrefuse : (fetch s).1 = .refuse .partialWord := by
    rw [fetch_of_host hts hq, readDelivery_of_wf_eq_false hpartial]
  exact step_of_fetch_refuse hwf hrefuse

end Sys2Proof.Machine
end

section
/-! SUPPORT. A host request other than INIT answers by what no answer changes (20_memory.md R55). -/

namespace Sys2Proof.Machine

/-- The check of a host request other than INIT (41_host_port.md R133 to R140). -/
def requestCheck : Instr → State → Option FaultCode
  | .rdSlot idx, s | .rdSnap idx, s => indexCheck .slotIndexOutOfRange idx s
  | .rdCh idx, s | .rdMap idx, s | .rdSnapCh idx, s => indexCheck .logicalIndexOutOfRange idx s
  | .edge _ _, _ | .init _ _, _ | .wrCh _ _, _ | .rdSeq, _ | .rdStatus, _ => none

/-- What a host request other than INIT responds when its check passes (41_host_port.md R133 to R140). -/
def requestValue : Instr → State → Word
  | .rdSlot idx, s => zext32 (readBank s.live idx)
  | .rdCh idx, s => zext32 (readBank s.live (readMap s.map idx))
  | .rdMap idx, s => zext32 (readMap s.map idx)
  | .rdSnap idx, s => zext32 (readBank (frontBank s) idx)
  | .rdSnapCh idx, s => zext32 (readBank (frontBank s) (readMap s.map idx))
  | .rdSeq, s => s.seq
  | .rdStatus, s => statusWord s
  | .edge _ _, _ | .init _ _, _ | .wrCh _ _, _ => 0

/-- A host request other than INIT only checks and responds (41_host_port.md R130). -/
theorem exec_eq_endRequest {i : Instr} (hi : i.onHostPort = true) (hinit : ∀ capOk n, i ≠ .init capOk n) (s : State) :
    exec i s = endRequest i (requestCheck i s) (respond (requestValue i s) s) s := by
  cases i with
  | edge => simp [Instr.onHostPort] at hi
  | init capOk n => exact absurd rfl (hinit capOk n)
  | rdSlot | rdCh | wrCh | rdMap | rdSnap | rdSnapCh | rdSeq | rdStatus => rfl

@[simp] theorem requestCheck_respond (i : Instr) (v : Word) (s : State) :
    requestCheck i (respond v s) = requestCheck i s := by
  cases i <;> rfl

@[simp] theorem requestCheck_raiseFault (i : Instr) (w : Word) (f : FaultCode) (s : State) :
    requestCheck i (raiseFault w f s) = requestCheck i s := by
  cases i <;> rfl

@[simp] theorem requestValue_respond (i : Instr) (v : Word) (s : State) :
    requestValue i (respond v s) = requestValue i s := by
  cases i <;> rfl

/-- Settles O40: after a fault the check fails alike, and after a response check and value are the same. -/
theorem requestsAreIdempotent : Obligations.RequestsAreIdempotent := by
  intro s t u i hi hinit ht hu
  rw [exec_eq_endRequest hi hinit] at ht hu
  cases hcheck : requestCheck i s with
  | some f =>
    rw [hcheck, endRequest_some] at ht
    cases ht
    rw [requestCheck_raiseFault, hcheck, endRequest_some] at hu
    cases hu
    exact ⟨_, rfl, rfl⟩
  | none =>
    rw [hcheck, endRequest_none] at ht
    cases ht
    rw [requestCheck_respond, hcheck, endRequest_none, requestValue_respond] at hu
    cases hu
    exact ⟨_, rfl, rfl⟩

end Sys2Proof.Machine
end

section
/-! SUPPORT. Between two equal reads of SEQ the front bank stands still (20_memory.md R60, R61). -/

namespace Sys2Proof.Machine

/-! ### What a step does to the front bank -/

/-- SEQ, FRONT and the front bank are the same: nothing was published (40_edge_decoder.md R108). -/
def KeepsFront (s t : State) : Prop :=
  t.seq = s.seq ∧ t.front = s.front ∧ frontBank t = frontBank s

theorem KeepsFront.refl (s : State) : KeepsFront s s := ⟨rfl, rfl, rfl⟩

theorem KeepsFront.trans {s t u : State} (h : KeepsFront s t) (h' : KeepsFront t u) : KeepsFront s u := by
  obtain ⟨hseq, hfront, hbank⟩ := h
  obtain ⟨hseq', hfront', hbank'⟩ := h'
  exact ⟨hseq'.trans hseq, hfront'.trans hfront, hbank'.trans hbank⟩

/-- What a step short of reset does to the front bank: it publishes nothing, or SEQ advances by one. INITED stays. -/
def PublishesAtMostOnce (s t : State) : Prop :=
  t.inited = s.inited ∧ (KeepsFront s t ∨ t.seq = s.seq + 1)

theorem sync_publishesAtMostOnce (s : State) : PublishesAtMostOnce s (sync s) := by
  unfold sync
  split
  · exact ⟨rfl, .inr rfl⟩
  · exact ⟨rfl, .inl ⟨rfl, rfl, rfl⟩⟩

theorem takeDelta_publishesAtMostOnce {d : Tick} {s t : State} (ht : takeDelta d s = .next t) :
    PublishesAtMostOnce s t := by
  obtain ⟨-, -, -, rfl⟩ | ⟨-, -, rfl⟩ | ⟨-, rfl⟩ | ⟨-, rfl⟩ := takeDelta_cases ht
  · exact ⟨rfl, .inl ⟨rfl, rfl, frontBank_store d s⟩⟩
  · exact ⟨rfl, .inl (.refl _)⟩
  · exact sync_publishesAtMostOnce s
  · exact ⟨rfl, .inl ⟨rfl, rfl, rfl⟩⟩

/-- After INIT a host request takes a fault or responds, and writes nothing else (60_exceptions.md R168). -/
theorem hostRequest_cases_of_inited {i : Instr} {s t : State} (hi : i.onHostPort = true) (hinited : s.inited = true)
    (ht : exec i s = .next t) : (∃ f, t = raiseFault (encode i) f s) ∨ ∃ v, t = respond v s := by
  obtain hfault | ⟨capOk, n, -, hcheck, -⟩ | ⟨-, hrespond⟩ := hostRequest_cases hi ht
  · exact .inl hfault
  · obtain ⟨hfalse, -⟩ := (initCheck_none_iff n s).mp hcheck
    exact absurd (hfalse.symm.trans hinited) Bool.false_ne_true
  · exact .inr hrespond

theorem exec_publishesAtMostOnce {i : Instr} {s t : State} (hinited : s.inited = true) (ht : exec i s = .next t) :
    PublishesAtMostOnce s t := by
  obtain ⟨pol, c, rfl⟩ | hi := i.edge_or_onHostPort
  · obtain ⟨-, ⟨-, rfl⟩ | ⟨-, -, u, hu, rfl⟩⟩ := execEdge_cases ht
    · exact ⟨rfl, .inl (.refl _)⟩
    · obtain ⟨hinited', hfront⟩ := takeDelta_publishesAtMostOnce hu
      exact ⟨hinited', hfront⟩
  · obtain ⟨f, rfl⟩ | ⟨v, rfl⟩ := hostRequest_cases_of_inited hi hinited ht
    · exact ⟨rfl, .inl ⟨rfl, rfl, rfl⟩⟩
    · exact ⟨rfl, .inl ⟨rfl, rfl, rfl⟩⟩

/-- A fetch leaves all that `PublishesAtMostOnce` compares. -/
theorem fetch_publishesAtMostOnce_iff (s t : State) :
    PublishesAtMostOnce (fetch s).2 t ↔ PublishesAtMostOnce s t := by
  obtain ⟨ts, cq, hq, h⟩ := fetch_frame s
  rw [h]
  exact Iff.rfl

/-- A step of an initialised block short of reset publishes at most once (20_memory.md R60). -/
theorem step_publishesAtMostOnce {s t : State} (hinited : s.inited = true) (hno : noResetWithin 1 s)
    (ht : step s = .next t) : PublishesAtMostOnce s t := by
  obtain ⟨-, -, -, -, -, -, -, -, -, -, -, -, hinited', -⟩ := (fetch_keeps s).1
  rw [← fetch_publishesAtMostOnce_iff]
  obtain ⟨-, ⟨-, rfl⟩ | ⟨hreset, -⟩ | ⟨i, -, hi⟩ | ⟨w, f, -, rfl⟩⟩ := step_cases ht
  · exact ⟨rfl, .inl (.refl _)⟩
  · exact absurd hreset (fetch_ne_reset hno)
  · exact exec_publishesAtMostOnce (hinited'.trans hinited) hi
  · exact ⟨rfl, .inl ⟨rfl, rfl, rfl⟩⟩

/-! ### The schedule along a run -/

theorem fetch_turns (s : State) : (fetch s).2.turns = s.turns.tail := by
  unfold fetch
  match ht : s.turns with
  | [] => exact ht
  | ⟨.resetPin, cs, ds⟩ :: ts => rfl
  | ⟨.capture, cs, ds⟩ :: ts => cases hq : s.captureQueue ++ cs <;> simp [fetchCapture, hq]
  | ⟨.host, cs, ds⟩ :: ts => cases hq : s.hostQueue ++ ds <;> simp [fetchHost, hq]

/-- A step takes one turn off the schedule (20_memory.md R56). -/
theorem step_turns {s t : State} (ht : step s = .next t) : t.turns = s.turns.tail := by
  rw [← fetch_turns]
  obtain ⟨-, ⟨-, rfl⟩ | ⟨-, rfl⟩ | ⟨i, -, hi⟩ | ⟨w, f, -, rfl⟩⟩ := step_cases ht
  · rfl
  · rfl
  · obtain ⟨-, -, -, hturns, -⟩ := exec_keeps hi
    exact hturns
  · rfl

theorem noResetWithin_succ {k : Nat} {s t : State} (hturns : t.turns = s.turns.tail) :
    noResetWithin (k + 1) s ↔ noResetWithin 1 s ∧ noResetWithin k t := by
  unfold noResetWithin
  rw [hturns]
  cases s.turns <;> simp

/-! ### Publications along a run -/

/-- A run of `k + 1` steps is a step and a run of `k`. -/
theorem run_succ_eq_next {M : Host.Core} {k : Nat} {s t : M.State} (h : M.run (k + 1) s = .next t) :
    ∃ u, M.step s = .next u ∧ M.run k u = .next t := by
  rw [Host.Core.run] at h
  split at h
  · next u hu => exact ⟨u, hu, h⟩
  · cases h
  · cases h

theorem publications_succ {k : Nat} {s u : State} (hu : step s = .next u) :
    publications (k + 1) s = (if u.seq = s.seq then 0 else 1) + publications k u := by
  rw [publications, hu]

/-- The first step of a run of an initialised block without reset, and what is left of the run: the step publishes
nothing and counts for none, or SEQ advances by one and it counts for one. -/
theorem step_of_noResetWithin {k : Nat} {s u : State} (hinited : s.inited = true) (hno : noResetWithin (k + 1) s)
    (hu : step s = .next u) :
    u.inited = true ∧ noResetWithin k u ∧
      ((KeepsFront s u ∧ publications (k + 1) s = publications k u) ∨
       (u.seq = s.seq + 1 ∧ publications (k + 1) s = publications k u + 1)) := by
  obtain ⟨hno1, hnok⟩ := (noResetWithin_succ (step_turns hu)).mp hno
  obtain ⟨hinited', hfront⟩ := step_publishesAtMostOnce hinited hno1 hu
  refine ⟨hinited'.trans hinited, hnok, ?_⟩
  rw [publications_succ hu]
  obtain hkeeps | hseq := hfront
  · exact .inl ⟨hkeeps, by rw [if_pos hkeeps.1, Nat.zero_add]⟩
  · have hne : u.seq ≠ s.seq := by simp [hseq]
    exact .inr ⟨hseq, by rw [if_neg hne, Nat.add_comm]⟩

/-- SEQ counts the publications of a run, modulo `2^32` (40_edge_decoder.md R108). -/
theorem run_seq {k : Nat} {s t : State} (hinited : s.inited = true) (hno : noResetWithin k s)
    (ht : Host.Core.run core k s = .next t) : t.seq = s.seq + BitVec.ofNat 32 (publications k s) := by
  induction k generalizing s with
  | zero => cases ht; simp [publications]
  | succ k ih =>
    obtain ⟨u, hu, hrun⟩ := run_succ_eq_next ht
    obtain ⟨hinited', hno', ⟨⟨hseq, -⟩, hcount⟩ | ⟨hseq, hcount⟩⟩ := step_of_noResetWithin hinited hno hu
    · rw [ih hinited' hno' hrun, hcount, hseq]
    · rw [ih hinited' hno' hrun, hcount, hseq, BitVec.ofNat_add]
      ac_rfl

/-- While a run publishes nothing, every state of it has the front bank it began with (20_memory.md R61). -/
theorem run_keepsFront {k j : Nat} {s u : State} (hinited : s.inited = true) (hno : noResetWithin k s)
    (hnone : publications k s = 0) (hj : j ≤ k) (hu : Host.Core.run core j s = .next u) : KeepsFront s u := by
  induction j generalizing k s with
  | zero => cases hu; exact .refl _
  | succ j ih =>
    obtain ⟨k, rfl⟩ := Nat.exists_eq_add_one_of_ne_zero (Nat.ne_zero_of_lt hj)
    obtain ⟨v, hv, hrun⟩ := run_succ_eq_next hu
    obtain ⟨hinited', hno', ⟨hkeeps, hcount⟩ | ⟨-, hcount⟩⟩ := step_of_noResetWithin hinited hno hv
    · exact hkeeps.trans (ih hinited' hno' (hcount.symm.trans hnone) (Nat.le_of_succ_le_succ hj) hrun)
    · omega

/-- Settles O55: SEQ counts publications modulo `2^32`, so an equal SEQ after fewer of them means none. -/
theorem equalSequenceMeansOneFrame : Obligations.EqualSequenceMeansOneFrame := by
  intro k s t hinited hno ht hfew hseq
  have hzero : BitVec.ofNat 32 (publications k s) = 0 := by
    simpa [hseq] using run_seq hinited hno ht
  have hnone : publications k s = 0 := by
    have hmod : publications k s % 2 ^ 32 = 0 := congrArg BitVec.toNat hzero
    rwa [Nat.mod_eq_of_lt hfew] at hmod
  refine ⟨hnone, fun j u hj hu => ?_⟩
  obtain ⟨-, hfront, hbank⟩ := run_keepsFront hinited hno hnone hj hu
  exact ⟨hfront, hbank⟩

end Sys2Proof.Machine
end

section
/-! SUPPORT. Encoder and decoders agree (30_encoding.md R71 to R77), told by the five fields of a word. -/

namespace Sys2Proof

/-- A word is told by its five fields (30_encoding.md R71). -/
theorem eq_operationWord_iff {w : Word} {op : BitVec 4} {idx : Index} {f : Bool} {data : BitVec 16} :
    w = operationWord op idx f data ↔
      opField w = op ∧ idxField w = idx ∧ rsvField w = 0 ∧ flagField w = f ∧ dataField w = data := by
  constructor
  · rintro rfl
    simp
  · rintro ⟨rfl, rfl, hrsv, rfl, rfl⟩
    exact (word_eq_operationWord w hrsv).symm

/-! ### Encode, then decode -/

theorem decodeHost_encode {i : Instr} (hi : i.onHostPort = true) : decodeHost (encode i) = .request i := by
  cases i with
  | edge => simp [Instr.onHostPort] at hi
  | init | rdSlot | rdCh | wrCh | rdMap | rdSnap | rdSnapCh | rdSeq | rdStatus =>
    simp [decodeHost, encode, onlyIndex]

/-- What a capture word must hold to spell an event, and the event (30_encoding.md R73, R80). -/
theorem decodeCapture_eq_some_iff (width : Nat) (w : Word) (i : Instr) :
    decodeCapture width w = some i ↔
      (opField w = 1 ∧ idxField w = 0 ∧ rsvField w = 0 ∧ (dataField w).toNat < 2 ^ width) ∧
        i = .edge (flagField w) (dataField w) := by
  rw [decodeCapture, Option.ite_none_right_eq_some, Option.some.injEq, eq_comm (b := i)]
  simp [and_assoc]

/-- Settles O1: each row's fields are read back from the word put together from them. -/
theorem decodeEncodeAgree : Obligations.DecodeEncodeAgree := by
  refine fun i => ⟨decodeHost_encode, fun width hi hwf => ?_⟩
  obtain ⟨pol, c, rfl⟩ | hhost := i.edge_or_onHostPort
  · have hc : c.toNat < 2 ^ width := by simpa [Instr.wf] using hwf
    simpa [decodeCapture_eq_some_iff, encode] using hc
  · simp [hhost] at hi

/-! ### Decode, then encode -/

theorem encode_of_decodeHost {w : Word} {i : Instr} (h : decodeHost w = .request i) : encode i = w := by
  simp only [decodeHost] at h
  split_ifs at h
  iterate 9
    obtain ⟨hfixed, rfl⟩ := (requestIf_request _ _ _).mp h
    refine (eq_operationWord_iff.mpr ?_).symm
    simp_all [onlyIndex, BitVec.toNat_eq]

theorem encode_of_decodeCapture {width : Nat} {w : Word} {i : Instr} (h : decodeCapture width w = some i) :
    encode i = w := by
  obtain ⟨⟨hop, hidx, hrsv, -⟩, rfl⟩ := (decodeCapture_eq_some_iff width w i).mp h
  exact (eq_operationWord_iff.mpr ⟨hop, hidx, hrsv, rfl, rfl⟩).symm

/-- Settles O2: the fields a decoder does not hand on are fixed, so the word is told by what it decodes to. -/
theorem encodeDecodeAgree : Obligations.EncodeDecodeAgree := by
  refine ⟨fun w i h => ⟨encode_of_decodeHost h, decodeHost_onHostPort h⟩, fun width w i h => ?_⟩
  refine ⟨encode_of_decodeCapture h, ?_⟩
  obtain ⟨pol, c, rfl, hc⟩ := decodeCapture_eq_edge h
  exact ⟨by simpa [Instr.wf] using hc, rfl⟩

/-- Settles O6: each word is a literal, and the decoders compute. -/
theorem sampleWordsDecode : Obligations.SampleWordsDecode := by
  unfold Obligations.SampleWordsDecode
  decide

end Sys2Proof
end

section
/-! SUPPORT. The fixed bits of each row (30_encoding.md R73 to R80): which host words fault, and which capture words
spell an event. -/

namespace Sys2Proof

/-- The fields below OP that a row fixes are 0 (30_encoding.md R73 to R77). -/
def Instr.FixedFieldsClear (w : Word) : Instr → Prop
  | .edge _ _ | .init _ _ => idxField w = 0 ∧ rsvField w = 0
  | .rdSlot _ | .rdCh _ | .rdMap _ | .rdSnap _ | .rdSnapCh _ =>
    rsvField w = 0 ∧ flagField w = false ∧ dataField w = 0
  | .wrCh _ _ => rsvField w = 0 ∧ flagField w = false
  | .rdSeq | .rdStatus => idxField w = 0 ∧ rsvField w = 0 ∧ flagField w = false ∧ dataField w = 0

/-! ### The mask of a row -/

theorem rowMatch_eq_operationWord (i : Instr) : rowMatch i = operationWord (opField (rowMatch i)) 0 false 0 := by
  cases i with
  | edge | init | rdSlot | rdCh | wrCh | rdMap | rdSnap | rdSnapCh | rdSeq | rdStatus =>
    simp only [rowMatch]
    decide

/-- `OP` and the fixed fields are the bits under a row's mask (30_encoding.md R73 to R77). -/
theorem and_rowMask_eq_rowMatch_iff (w : Word) (i : Instr) :
    w &&& rowMask i = rowMatch i ↔ opField w = opField (rowMatch i) ∧ i.FixedFieldsClear w := by
  have keep4 (v : BitVec 4) : v &&& 0xF#4 = v := BitVec.and_allOnes
  have keep7 (v : BitVec 7) : v &&& 0x7F#7 = v := BitVec.and_allOnes
  have keep16 (v : BitVec 16) : v &&& 0xFFFF#16 = v := BitVec.and_allOnes
  rw [rowMatch_eq_operationWord, eq_operationWord_iff, opField_operationWord]
  cases i with
  | edge | init | rdSlot | rdCh | wrCh | rdMap | rdSnap | rdSnapCh | rdSeq | rdStatus =>
    simp [Instr.FixedFieldsClear, rowMask, opField, idxField, rsvField, flagField, dataField,
      keep4, keep7, keep16, BitVec.extractLsb'_and]

/-! ### Host words that fault -/

/-- A host word faults IllegalOp by its OP alone (30_encoding.md R78, R80). -/
theorem decodeHost_eq_illegalOp_iff (w : Word) :
    decodeHost w = .faulty .illegalOp ↔ (opField w).toNat < 2 ∨ 11 ≤ (opField w).toNat := by
  simp only [decodeHost]
  split_ifs
  iterate 9
    · simp only [requestIf_faulty, reduceCtorEq, and_false, false_iff]
      omega
  · simp only [true_iff]
    omega

/-- Settles O3: OP is the word shifted down to its top four bits. -/
theorem illegalOpExactly : Obligations.IllegalOpExactly := by
  refine ⟨rfl, fun w => ?_⟩
  rw [decodeHost_eq_illegalOp_iff, opField_toNat]
  omega

/-- A host word with the OP of a host operation faults ReservedBits by that row's fixed fields (30_encoding.md R79). -/
theorem decodeHost_eq_reservedBits_iff {w : Word} {i : Instr} (hi : i.onHostPort = true)
    (hop : opField w = opField (rowMatch i)) :
    decodeHost w = .faulty .reservedBits ↔ ¬ i.FixedFieldsClear w := by
  cases i with
  | edge => simp [Instr.onHostPort] at hi
  | init | rdSlot | rdCh | wrCh | rdMap | rdSnap | rdSnapCh | rdSeq | rdStatus =>
    simp only [decodeHost, hop]
    simp [rowMatch, opField, Instr.FixedFieldsClear, onlyIndex]

/-- Settles O4: OP being the row's, what is left under the mask are the fixed fields. -/
theorem reservedBitsExactly : Obligations.ReservedBitsExactly := by
  intro w i hi hshift
  have hop : opField w = opField (rowMatch i) := by
    apply BitVec.eq_of_toNat_eq
    rw [opField_toNat, opField_toNat, hshift]
  rw [decodeHost_eq_reservedBits_iff hi hop, Ne, and_rowMask_eq_rowMatch_iff, and_iff_right hop]

/-! ### Capture words that spell an event -/

theorem dataField_eq_setWidth (w : Word) : dataField w = w.setWidth 16 := by
  ext i hi
  simp [dataField, BitVec.getElem_setWidth, BitVec.getElem_extractLsb']

/-- Settles O5: the row of EDGE fixes OP, IDX and RSV. -/
theorem captureWordSpellsEdge : Obligations.CaptureWordSpellsEdge := by
  intro width w i
  have hrow : w &&& 0xFFFE0000 = 0x10000000 ↔ opField w = 1 ∧ idxField w = 0 ∧ rsvField w = 0 :=
    and_rowMask_eq_rowMatch_iff w (.edge false 0)
  rw [decodeCapture_eq_some_iff, hrow, ← dataField_eq_setWidth]
  simp only [and_assoc, flagField]

theorem decodeCapture_eq_none {width : Nat} {w : Word}
    (h : w &&& 0xFFFE0000 ≠ 0x10000000 ∨ 2 ^ width ≤ (w.setWidth 16).toNat) : decodeCapture width w = none := by
  rw [Option.eq_none_iff_forall_ne_some]
  intro i hi
  obtain ⟨hrow, hlt, -⟩ := (captureWordSpellsEdge width w i).mp hi
  exact h.elim (· hrow) (Nat.not_le_of_lt hlt)

end Sys2Proof

namespace Sys2Proof.Machine

/-- Settles O12: the fetch finds no event in a word the capture port cannot decode. -/
theorem malformedCaptureWordRefused : Obligations.MalformedCaptureWordRefused := by
  intro s cs rest ds ts w hwf hts hq hbad
  have hrefuse : (fetch s).1 = .refuse .noEvent := by
    rw [fetch_of_capture hts hq, readCapture, decodeCapture_eq_none hbad]
  exact step_of_fetch_refuse hwf hrefuse

end Sys2Proof.Machine
end

section
/-! SUPPORT. Every host request ends in one response (30_encoding.md R81). -/

namespace Sys2Proof.Machine

/-- `raiseFault` is the claims' own reading of a fault taken (60_exceptions.md R162, R174). -/
theorem raiseFault_eq_errState (w : Word) (f : FaultCode) (s : State) :
    raiseFault w f s = errState w f (codeOf f) s := by
  cases f <;> rfl

theorem indexCheck_code {outOfRange f : FaultCode} {idx : Index} {s : State}
    (hrange : 3 ≤ (codeOf outOfRange).toNat) (h : indexCheck outOfRange idx s = some f) : 3 ≤ (codeOf f).toNat := by
  obtain ⟨-, hc⟩ | ⟨-, -, hc⟩ | ⟨-, -, hc⟩ := indexCheck_cases outOfRange idx s
  · cases hc.symm.trans h; decide
  · cases hc.symm.trans h; exact hrange
  · cases hc.symm.trans h

theorem initCheck_code {n : BitVec 16} {f : FaultCode} {s : State} (h : initCheck n s = some f) :
    3 ≤ (codeOf f).toNat := by
  unfold initCheck at h
  split_ifs at h <;> cases h <;> decide

/-- A host request ends as `endRequest` says, and the codes 1 and 2 are the decoder's alone (60_exceptions.md R160,
R161). -/
theorem exec_eq_endRequest_of_onHostPort {i : Instr} (hi : i.onHostPort = true) (s : State) :
    ∃ check v u, exec i s = endRequest i check (respond v u) s ∧ SameHostSide s u ∧
      ∀ f, check = some f → 3 ≤ (codeOf f).toNat := by
  cases i with
  | edge => simp [Instr.onHostPort] at hi
  | init capOk n => exact ⟨initCheck n s, 0, initialise capOk n s, rfl, ⟨rfl, rfl, rfl, rfl⟩, fun _ => initCheck_code⟩
  | wrCh | rdSeq | rdStatus => exact ⟨none, _, s, rfl, ⟨rfl, rfl, rfl, rfl⟩, by simp⟩
  | rdSlot | rdCh | rdMap | rdSnap | rdSnapCh =>
    exact ⟨indexCheck _ _ s, _, s, rfl, ⟨rfl, rfl, rfl, rfl⟩, fun _ => indexCheck_code (by decide)⟩

/-- Settles O38: a request ends in the fault its checks name or in its response. -/
theorem oneResponsePerRequest : Obligations.OneResponsePerRequest := by
  intro s i hi
  obtain ⟨t, ht⟩ := hostRequest_next hi s
  refine ⟨t, ht, (exec_keeps ht).2, ?_⟩
  obtain ⟨check, v, u, hexec, ⟨hhostErr, herrCode, hresponses, hrecord⟩, hcode⟩ := exec_eq_endRequest_of_onHostPort hi s
  obtain ⟨f, hf, rfl⟩ | ⟨-, rfl⟩ := endRequest_cases (hexec.symm.trans ht)
  · exact .inr ⟨f, codeOf f, raiseFault_eq_errState (encode i) f s, hcode f hf, (codeOf_range f).2⟩
  · exact .inl ⟨v, by simp [hresponses], hhostErr, herrCode, hrecord⟩

end Sys2Proof.Machine
end

section
/-! SUPPORT. The pseudo-operations of a trace (30_encoding.md R84). -/

namespace Sys2Proof.Machine

/-- `(T + d) mod 2^W` fits the 16 bits a timestamp is held in. -/
theorem timeAfter_toNat {width : Nat} (h : width ≤ 16) (t : Tick) (d : Nat) :
    (timeAfter width t d).toNat = (t.toNat + d) % 2 ^ width := by
  have hpow : 2 ^ width ≤ 2 ^ 16 := Nat.pow_le_pow_right (by omega) h
  have hlt : (t.toNat + d) % 2 ^ width < 2 ^ width := Nat.mod_lt _ (Nat.two_pow_pos width)
  exact (BitVec.toNat_ofNat ..).trans (Nat.mod_eq_of_lt (by omega))

theorem readFrameTurns_length (k : Nat) : (readFrameTurns k).length = k + 2 := by
  simp [readFrameTurns]

theorem readFrameTurns_first (k : Nat) : (readFrameTurns k)[0]? = some (hostTurn (encode .rdSeq)) := rfl

theorem readFrameTurns_last (k : Nat) : (readFrameTurns k)[k + 1]? = some (hostTurn (encode .rdSeq)) := by
  simp [readFrameTurns]

theorem readFrameTurns_slot {k i : Nat} (h : i < k) :
    (readFrameTurns k)[i + 1]? = some (hostTurn (encode (.rdSnap (BitVec.ofNat 4 i)))) := by
  rw [readFrameTurns, List.cons_append, List.getElem?_cons_succ, List.getElem?_append_left (by simpa using h)]
  simp [h]

/-- Settles O56: the times of `timeAfter`, and the requests of `readFrameTurns` in their order. -/
theorem pseudoOperationsExpand : Obligations.PseudoOperationsExpand := by
  refine ⟨fun width time d hwidth => ?_, fun _ _ _ => rfl, fun _ _ => rfl, fun width k time hk => ?_⟩
  · exact ⟨timeAfter width time d, timeAfter_toNat hwidth time d, rfl, rfl⟩
  · refine ⟨readFrameTurns k, if_pos hk, readFrameTurns_length k, readFrameTurns_first k, readFrameTurns_last k, ?_⟩
    intro i hi
    have hidx : BitVec.ofNat 4 i.val = BitVec.ofFin i := BitVec.ofFin_eq_ofNat.symm
    rw [readFrameTurns_slot hi, hidx]

end Sys2Proof.Machine
end

section
/-! SUPPORT. The delta calculator and the classifier as numbers (40_edge_decoder.md R103, R104, R116). -/

namespace Sys2Proof.Machine

/-! ### The delta calculator -/

/-- The delta is any count of ticks from `last` to `c`, modulo `2^W`. -/
theorem delta_toNat_of_modEq {width : Nat} (hwidth : width ≤ 16) {c last : Tick} {n : Nat}
    (h : last.toNat + n ≡ c.toNat [MOD 2 ^ width]) : (delta width c last).toNat = n % 2 ^ width := by
  have hsub : last.toNat + (c - last).toNat ≡ c.toNat [MOD 2 ^ 16] := by
    rw [Nat.ModEq]
    bv_omega
  have hsub' := hsub.of_dvd (Nat.pow_dvd_pow 2 hwidth)
  rw [delta, truncTick_toNat]
  exact Nat.ModEq.add_left_cancel' last.toNat (hsub'.trans h.symm)

theorem delta_lt (width : Nat) (c last : Tick) : (delta width c last).toNat < 2 ^ width :=
  truncTick_lt width (c - last)

/-- The delta of an edge `t` ticks after `last` (40_edge_decoder.md R116). -/
theorem delta_timeAfter {width : Nat} (hwidth : width ≤ 16) (last : Tick) (t : Nat) :
    delta width (timeAfter width last t) last = BitVec.ofNat 16 (t % 2 ^ width) := by
  have hcount : last.toNat + t ≡ (timeAfter width last t).toNat [MOD 2 ^ width] := by
    rw [timeAfter_toNat hwidth]
    exact (Nat.mod_modEq _ _).symm
  rw [← delta_toNat_of_modEq hwidth hcount, BitVec.ofNat_toNat, BitVec.setWidth_eq]

/-- Settles O19: the timestamp of the statement is `timeAfter`. -/
theorem deltaIsElapsedModulo : Obligations.DeltaIsElapsedModulo :=
  fun _ t last hwidth _ => delta_timeAfter hwidth last t

theorem delta_toNat {width : Nat} {c last : Tick} (hwidth : width ≤ 16) (hlast : last.toNat < 2 ^ width) :
    (delta width c last).toNat = elapsed width c last := by
  refine delta_toNat_of_modEq hwidth ?_
  have hsum : last.toNat + (c.toNat + 2 ^ width - last.toNat) = c.toNat + 2 ^ width := by omega
  rw [hsum]
  exact Nat.add_modEq_right

/-- Settles O20: `c + 2^W - last` is one count of the ticks from `last` to `c`. -/
theorem deltaIsWrappedDifference : Obligations.DeltaIsWrappedDifference := by
  intro width c last hwidth _ hlast
  exact ⟨delta_toNat hwidth hlast, delta_lt width c last⟩

/-! ### The classifier -/

section
variable {cfg : Config} (hwf : cfg.wf = true) (d : Tick)
include hwf

theorem classify_eq_sync_iff : classify cfg d = .sync ↔ cfg.isSync d.toNat := by
  obtain ⟨-, -, -, hhigh, -, -, -⟩ := cfg.wf_iff.mp hwf
  unfold classify Config.isSync
  split
  · next hp => exact iff_of_false (by simp) (by omega)
  · next hp => simp

theorem classify_eq_glitch_iff : classify cfg d = .glitch ↔ cfg.isGlitch d.toNat := by
  obtain ⟨-, -, hlow, hhigh, -, -, -⟩ := cfg.wf_iff.mp hwf
  unfold classify Config.isGlitch
  split
  · next hp => exact iff_of_false (by simp) (by omega)
  · next hp =>
    split
    · next hs => exact iff_of_false (by simp) (by omega)
    · next hs => exact iff_of_true rfl (by omega)

end

/-- Settles O21: the PULSE range lies below the SYNC range (00_scope.md R7), and GLITCH is the rest. -/
theorem classesAreTheRanges : Obligations.ClassesAreTheRanges := by
  intro cfg d hwf
  exact ⟨classify_eq_pulse_iff cfg d, classify_eq_sync_iff hwf d, classify_eq_glitch_iff hwf d⟩

end Sys2Proof.Machine
end

section
/-! SUPPORT. EDGE by the class of its delta (40_edge_decoder.md R101 to R110), and its frame (R100, R111). -/

namespace Sys2Proof.Machine

/-! ### The gates -/

/-- Settles O18: the enable gate and the polarity filter come before the delta. -/
theorem gatedEdgeChangesNothing : Obligations.GatedEdgeChangesNothing := by
  intro s pol c hc hgate
  change execEdge pol c s = .next s
  rw [execEdge, if_pos hc]
  obtain hen | hpol := hgate
  · rw [if_pos hen]
  · rw [if_pos hpol, ite_self]

/-- A rising edge the block accepts takes its delta and then moves the anchor (40_edge_decoder.md R103 to R110). -/
theorem exec_rise {s : State} {c : Tick} (hen : s.en = true) (hc : c.toNat < 2 ^ s.cfg.width) :
    exec (.edge true c) s = mapNext (anchor c) (takeDelta (delta s.cfg.width c s.lastRise) s) := by
  change execEdge true c s = _
  rw [execEdge, if_pos hc, if_neg (by simp [hen]), if_neg (by simp), risingEdge]
  cases takeDelta (delta s.cfg.width c s.lastRise) s <;> rfl

/-! ### A delta by its class -/

section
variable {s : State} {d : Tick}

theorem takeDelta_of_stored_pulse (hd : s.cfg.isPulse d.toNat) (hlt : s.cursor.toNat < s.nch.toNat)
    (hfits : s.cursor.toNat < 16) : takeDelta d s = .next (store d s) := by
  simp [takeDelta, (classify_eq_pulse_iff _ _).mpr hd, hlt, storeFits, hfits]

theorem takeDelta_of_excess_pulse (hd : s.cfg.isPulse d.toNat) (hle : s.nch.toNat ≤ s.cursor.toNat) :
    takeDelta d s = .next s := by
  simp [takeDelta, (classify_eq_pulse_iff _ _).mpr hd, Nat.not_lt.mpr hle]

theorem takeDelta_of_sync (hwf : s.cfg.wf = true) (hd : s.cfg.isSync d.toNat) : takeDelta d s = .next (sync s) := by
  rw [takeDelta, (classify_eq_sync_iff hwf d).mpr hd]

theorem takeDelta_of_glitch (hwf : s.cfg.wf = true) (hd : s.cfg.isGlitch d.toNat) :
    takeDelta d s = .next (glitch s) := by
  rw [takeDelta, (classify_eq_glitch_iff hwf d).mpr hd]

end

theorem frameComplete_iff (s : State) : frameComplete s = true ↔ s.frameOk = true ∧ s.cursor = s.nch := by
  simp [frameComplete]

/-- An accepted rising edge takes the wrapped difference (40_edge_decoder.md R103). -/
theorem exec_rise_of_accepts {s t : State} {c : Tick} (h : AcceptsRise c s)
    (ht : takeDelta (delta s.cfg.width c s.lastRise) s = .next t) : exec (.edge true c) s = .next (anchor c t) := by
  obtain ⟨hen, -, hc, -⟩ := h
  rw [exec_rise hen hc, ht, mapNext]

theorem delta_toNat_of_accepts {s : State} {c : Tick} (h : AcceptsRise c s) :
    (delta s.cfg.width c s.lastRise).toNat = elapsed s.cfg.width c s.lastRise := by
  obtain ⟨-, hwidth, -, hlast⟩ := h
  exact delta_toNat hwidth hlast

/-- Settles O22: the store at CURSOR, written out. -/
theorem pulseIsStored : Obligations.PulseIsStored := by
  intro s c h hpulse hlt hnch
  rw [← delta_toNat_of_accepts h] at hpulse ⊢
  rw [exec_rise_of_accepts h (takeDelta_of_stored_pulse hpulse hlt (by omega))]
  have hcursor : BitVec.ofNat 5 (s.cursor.toNat + 1) = s.cursor + 1 := by
    bv_omega
  cases hfront : s.front <;> simp [anchor, store, writeBank, hfront, hcursor]

/-- Settles O23: a pulse past the last channel is dropped, and the anchor moves. -/
theorem excessPulseIsDropped : Obligations.ExcessPulseIsDropped := by
  intro s c h hpulse hfull
  rw [← delta_toNat_of_accepts h] at hpulse
  exact exec_rise_of_accepts h (takeDelta_of_excess_pulse hpulse (by rw [hfull]))

/-- Settles O24: SEQ as a 32-bit word wraps as the statement's number does. -/
theorem syncOpensFrameAndPublishes : Obligations.SyncOpensFrameAndPublishes := by
  intro s c h hwf hsync
  rw [← delta_toNat_of_accepts h] at hsync
  rw [exec_rise_of_accepts h (takeDelta_of_sync hwf hsync)]
  have hseq : BitVec.ofNat 32 ((s.seq.toNat + 1) % 2 ^ 32) = s.seq + 1 := by
    bv_omega
  simp only [sync, frameComplete_iff, hseq]
  split <;> rfl

/-- Settles O25: both ranges are the one glitch class (40_edge_decoder.md R112). -/
theorem glitchFreezesFrame : Obligations.GlitchFreezesFrame := by
  intro s c h hwf hglitch
  rw [← delta_toNat_of_accepts h] at hglitch
  exact exec_rise_of_accepts h (takeDelta_of_glitch hwf hglitch)

/-! ### What EDGE leaves -/

/-- Settles O26: what the capture port decodes is an edge of `W` bits. -/
theorem edgePathNeverFaults : Obligations.EdgePathNeverFaults := by
  intro s w i h hi
  obtain ⟨pol, c, rfl, hc⟩ := decodeCapture_eq_edge hi
  obtain ⟨t, ht⟩ := execEdge_next h pol hc
  exact ⟨t, ht, execEdge_sameHostSide ht⟩

/-- A sync opens a frame, and of the rest can move FRONT and SEQ alone (40_edge_decoder.md R107, R108). -/
theorem sync_eq_openFrame (s : State) : ∃ front seq, sync s = openFrame { s with front := front, seq := seq } := by
  unfold sync
  split
  · exact ⟨!s.front, s.seq + 1, rfl⟩
  · exact ⟨s.front, s.seq, rfl⟩

/-- A delta is stored in a slot, or writes the frame registers alone (40_edge_decoder.md R105 to R109). -/
theorem takeDelta_store_or_registers {d : Tick} {s t : State} (ht : takeDelta d s = .next t) :
    t = store d s ∨ ∃ cursor front seq frameOk,
      t = { s with cursor := cursor, front := front, seq := seq, frameOk := frameOk } := by
  obtain ⟨-, -, -, rfl⟩ | ⟨-, -, rfl⟩ | ⟨-, rfl⟩ | ⟨-, rfl⟩ := takeDelta_cases ht
  · exact .inl rfl
  · exact .inr ⟨t.cursor, t.front, t.seq, t.frameOk, rfl⟩
  · obtain ⟨front, seq, hsync⟩ := sync_eq_openFrame s
    exact .inr ⟨0, front, seq, true, hsync⟩
  · exact .inr ⟨s.nch, s.front, s.seq, false, rfl⟩

/-- The front bank as it stood, and every slot but the one at CURSOR, are the same (40_edge_decoder.md R100). -/
def KeepsSlotsButCursor (s t : State) : Prop :=
  (if s.front = true then t.snap1 = s.snap1 else t.snap0 = s.snap0) ∧
    ∀ i : Fin 16, i.val ≠ s.cursor.toNat →
      t.live[i] = s.live[i] ∧ t.snap0[i] = s.snap0[i] ∧ t.snap1[i] = s.snap1[i]

theorem keepsSlotsButCursor_of_sameBanks {s t : State} (hlive : t.live = s.live) (hsnap0 : t.snap0 = s.snap0)
    (hsnap1 : t.snap1 = s.snap1) : KeepsSlotsButCursor s t := by
  simp [KeepsSlotsButCursor, hlive, hsnap0, hsnap1]

theorem store_keepsSlotsButCursor (d : Tick) (s : State) : KeepsSlotsButCursor s (store d s) := by
  have hwrite : ∀ (b : Bank) (i : Fin 16), i.val ≠ s.cursor.toNat → (writeBank b s.cursor.toNat d)[i] = b[i] :=
    fun b i => writeBank_get_other b _ i d
  rw [KeepsSlotsButCursor, store_live, store_snap0, store_snap1]
  cases s.front with
  | false => exact ⟨rfl, fun i hi => ⟨hwrite _ i hi, rfl, hwrite _ i hi⟩⟩
  | true => exact ⟨rfl, fun i hi => ⟨hwrite _ i hi, hwrite _ i hi, rfl⟩⟩

/-- What taking a delta leaves of the decoder's state (40_edge_decoder.md R100). -/
theorem takeDelta_keepsDecoder {d : Tick} {s t : State} (ht : takeDelta d s = .next t) :
    t.nch = s.nch ∧ t.map = s.map ∧ t.en = s.en ∧ t.inited = s.inited ∧ t.cfgErr = s.cfgErr ∧
      KeepsSlotsButCursor s t := by
  obtain rfl | ⟨cursor, front, seq, frameOk, rfl⟩ := takeDelta_store_or_registers ht
  · exact ⟨rfl, rfl, rfl, rfl, rfl, store_keepsSlotsButCursor d s⟩
  · exact ⟨rfl, rfl, rfl, rfl, rfl, keepsSlotsButCursor_of_sameBanks rfl rfl rfl⟩

/-- Settles O27: an edge is gated and leaves all, or takes its delta and moves the anchor. -/
theorem edgeFrame : Obligations.EdgeFrame := by
  intro s t pol c ht
  obtain ⟨hcfg, henv⟩ := exec_keeps ht
  refine ⟨execEdge_sameHostSide ht, henv, hcfg, ?_⟩
  obtain ⟨-, ⟨-, rfl⟩ | ⟨-, -, u, hu, rfl⟩⟩ := execEdge_cases ht
  · obtain ⟨hfront, hslots⟩ := keepsSlotsButCursor_of_sameBanks (s := t) rfl rfl rfl
    exact ⟨rfl, rfl, rfl, rfl, rfl, hfront, hslots, .inl rfl⟩
  · obtain ⟨hnch, hmap, hen, hinited, hcfgErr, hfront, hslots⟩ := takeDelta_keepsDecoder hu
    exact ⟨hnch, hmap, hen, hinited, hcfgErr, hfront, hslots, .inr rfl⟩

end Sys2Proof.Machine
end

section
/-! SUPPORT. A publication hands over one whole frame (40_edge_decoder.md R107, R108, R114). -/

namespace Sys2Proof.Machine

/-! ### A sync, by whether the frame is complete -/

theorem sync_of_complete {s : State} (h : frameComplete s = true) : sync s = openFrame (publish s) := by
  rw [sync, if_pos h]

theorem sync_of_incomplete {s : State} (h : frameComplete s = false) : sync s = openFrame s := by
  rw [sync, h, if_neg Bool.false_ne_true]

/-- The step from `s` to `t` publishes: SEQ advances, FRONT flips, and the new front bank is the live bank on all
channels (40_edge_decoder.md R114). -/
def PublishesLiveBank (s t : State) : Prop :=
  t.seq = s.seq + 1 ∧ t.front = !s.front ∧ t.live = s.live ∧
    ∀ i : Fin 16, i.val < s.nch.toNat → (frontBank t)[i] = t.live[i]

/-- A complete frame has filled the slots of all channels, and the back bank mirrors them. -/
theorem sync_publishesLiveBank {s : State} (h : s.Inv) (hcomplete : frameComplete s = true) :
    PublishesLiveBank s (sync s) := by
  obtain ⟨hok, hfull⟩ := (frameComplete_iff s).mp hcomplete
  rw [sync_of_complete hcomplete]
  refine ⟨rfl, rfl, rfl, fun i hi => ?_⟩
  change (frontBank (publish s))[i] = s.live[i]
  rw [frontBank_publish]
  exact h.mirrored hok i (by rwa [hfull])

theorem takeDelta_publishesLiveBank {d : Tick} {s t : State} (h : s.Inv) (ht : takeDelta d s = .next t) :
    (t.seq = s.seq ∧ t.front = s.front) ∨ PublishesLiveBank s t := by
  obtain ⟨-, -, -, rfl⟩ | ⟨-, -, rfl⟩ | ⟨-, rfl⟩ | ⟨-, rfl⟩ := takeDelta_cases ht
  · exact .inl ⟨rfl, rfl⟩
  · exact .inl ⟨rfl, rfl⟩
  · cases hcomplete : frameComplete s with
    | true => exact .inr (sync_publishesLiveBank h hcomplete)
    | false =>
      rw [sync_of_incomplete hcomplete]
      exact .inl ⟨rfl, rfl⟩
  · exact .inl ⟨rfl, rfl⟩

theorem exec_publishesLiveBank {i : Instr} {s t : State} (h : s.Inv) (hinited : s.inited = true)
    (ht : exec i s = .next t) : (t.seq = s.seq ∧ t.front = s.front) ∨ PublishesLiveBank s t := by
  obtain ⟨pol, c, rfl⟩ | hi := i.edge_or_onHostPort
  · obtain ⟨-, ⟨-, rfl⟩ | ⟨-, -, u, hu, rfl⟩⟩ := execEdge_cases ht
    · exact .inl ⟨rfl, rfl⟩
    · have hpublish := takeDelta_publishesLiveBank h hu
      exact hpublish
  · obtain ⟨f, rfl⟩ | ⟨v, rfl⟩ := hostRequest_cases_of_inited hi hinited ht
    · exact .inl ⟨rfl, rfl⟩
    · exact .inl ⟨rfl, rfl⟩

/-- Settles O51: short of reset, SEQ and FRONT move at a publication alone. -/
theorem publicationIsOneFrame : Obligations.PublicationIsOneFrame := by
  intro s t h hinited hno ht hmoved
  obtain ⟨-, -, -, hnch, hlive, -, -, -, hfront, hseq, -, -, hinited', -⟩ := (fetch_keeps s).1
  change PublishesLiveBank s t
  rw [← hseq, ← hfront] at hmoved
  rw [PublishesLiveBank, ← hseq, ← hfront, ← hlive, ← hnch]
  obtain ⟨-, ⟨-, rfl⟩ | ⟨hreset, -⟩ | ⟨i, -, hi⟩ | ⟨w, f, -, rfl⟩⟩ := step_cases ht
  · simp at hmoved
  · exact absurd hreset (fetch_ne_reset hno)
  · obtain ⟨hseq', hfront'⟩ | hpublish := exec_publishesLiveBank (fetch_inv h) (hinited'.trans hinited) hi
    · exact hmoved.elim (absurd hseq') (absurd hfront')
    · exact hpublish
  · simp at hmoved

end Sys2Proof.Machine
end

section
/-! SUPPORT. Runs of rising edges told by their deltas: the frozen frame and the frame law (40_edge_decoder.md R113,
R115). -/

namespace Sys2Proof.Machine

/-! ### One rising edge -/

theorem isPulse_or_isGlitch_of_not_isSync {cfg : Config} {d : Nat} (h : ¬ cfg.isSync d) :
    cfg.isPulse d ∨ cfg.isGlitch d := by
  unfold Config.isSync at h
  unfold Config.isPulse Config.isGlitch
  omega

/-- A delta short of a sync has `W` bits (00_scope.md R7). -/
theorem lt_two_pow_width_of_not_isSync {cfg : Config} {d : Nat} (h : cfg.wf = true) (hd : ¬ cfg.isSync d) :
    d < 2 ^ cfg.width := by
  obtain ⟨-, -, -, -, hsync, -, -⟩ := cfg.wf_iff.mp h
  unfold Config.isSync at hd
  omega

/-- A rising edge `d` ticks after the last takes the delta `d` (40_edge_decoder.md R116). -/
theorem riseAfter_of_takeDelta {s t : State} {d : Tick} (h : s.Inv) (hen : s.en = true)
    (hd : d.toNat < 2 ^ s.cfg.width) (ht : takeDelta d s = .next t) :
    ∃ c, riseAfter d s = .next (anchor c t) ∧ (anchor c t).Inv := by
  obtain ⟨-, hwidth, -⟩ := s.cfg.wf_iff.mp h.cfg_wf
  have hc : (timeAfter s.cfg.width s.lastRise d.toNat).toNat < 2 ^ s.cfg.width := by
    rw [timeAfter_toNat hwidth]
    exact Nat.mod_lt _ (Nat.two_pow_pos _)
  have hdelta : delta s.cfg.width (timeAfter s.cfg.width s.lastRise d.toNat) s.lastRise = d := by
    rw [delta_timeAfter hwidth, Nat.mod_eq_of_lt hd, BitVec.ofNat_toNat, BitVec.setWidth_eq]
  have hrise : riseAfter d s = .next (anchor (timeAfter s.cfg.width s.lastRise d.toNat) t) := by
    rw [riseAfter, exec_rise hen hc, hdelta, ht, mapNext]
  exact ⟨_, hrise, exec_inv h hrise⟩

/-! ### Runs of rising edges -/

theorem risesAfter_cons {d : Tick} {ds : List Tick} {s t : State} (h : riseAfter d s = .next t) :
    risesAfter (d :: ds) s = risesAfter ds t := by
  rw [risesAfter, h]

theorem risesAfter_append {ds es : List Tick} {s t : State} (h : risesAfter ds s = .next t) :
    risesAfter (ds ++ es) s = risesAfter es t := by
  induction ds generalizing s with
  | nil => cases h; rfl
  | cons d ds ih =>
    rw [risesAfter] at h
    split at h
    · next u hu => rw [List.cons_append, risesAfter_cons hu, ih h]
    · cases h
    · cases h

/-- A rising edge whose delta is a sync, as a run (40_edge_decoder.md R107). -/
theorem risesAfter_sync {s : State} {d : Tick} (h : s.Inv) (hen : s.en = true) (hd : d.toNat < 2 ^ s.cfg.width)
    (hsync : s.cfg.isSync d.toNat) :
    ∃ c, risesAfter [d] s = .next (anchor c (sync s)) ∧ (anchor c (sync s)).Inv := by
  obtain ⟨c, hrise, hinv⟩ := riseAfter_of_takeDelta h hen hd (takeDelta_of_sync h.cfg_wf hsync)
  exact ⟨c, risesAfter_cons hrise, hinv⟩

/-! ### A frozen frame -/

/-- A glitch in a frozen frame freezes nothing more (40_edge_decoder.md R109). -/
theorem glitch_eq_self {s : State} (hfull : s.cursor = s.nch) (hok : s.frameOk = false) : glitch s = s := by
  cases s
  cases hfull
  cases hok
  rfl

/-- While the frame is frozen, a delta short of a sync moves only the anchor (40_edge_decoder.md R106, R109). -/
theorem takeDelta_of_frozen {s : State} {d : Tick} (hwf : s.cfg.wf = true) (hfull : s.cursor = s.nch)
    (hok : s.frameOk = false) (hd : ¬ s.cfg.isSync d.toNat) : takeDelta d s = .next s := by
  obtain hpulse | hglitch := isPulse_or_isGlitch_of_not_isSync hd
  · exact takeDelta_of_excess_pulse hpulse (by rw [hfull])
  · rw [takeDelta_of_glitch hwf hglitch, glitch_eq_self hfull hok]

/-- A run short of a sync leaves a frozen frame as it is, but for the anchor (40_edge_decoder.md R115). -/
theorem risesAfter_of_frozen {s : State} {ds : List Tick} (h : s.Inv) (hen : s.en = true) (hfull : s.cursor = s.nch)
    (hok : s.frameOk = false) (hds : ∀ d ∈ ds, ¬ s.cfg.isSync d.toNat) :
    ∃ c, risesAfter ds s = .next (anchor c s) ∧ (anchor c s).Inv := by
  induction ds generalizing s with
  | nil => exact ⟨s.lastRise, rfl, h⟩
  | cons d ds ih =>
    obtain ⟨hd, hrest⟩ := List.forall_mem_cons.mp hds
    obtain ⟨c, hrise, hinv⟩ := riseAfter_of_takeDelta h hen (lt_two_pow_width_of_not_isSync h.cfg_wf hd)
      (takeDelta_of_frozen h.cfg_wf hfull hok hd)
    rw [risesAfter_cons hrise]
    exact ih hinv hen hfull hok hrest

/-- Settles O54: the state INIT leaves is frozen. -/
theorem nothingStoredBeforeFirstSync : Obligations.NothingStoredBeforeFirstSync := by
  intro s ds h hen hfull hok hds
  obtain ⟨c, hrun, -⟩ := risesAfter_of_frozen h hen hfull hok hds
  exact ⟨anchor c s, hrun, rfl⟩

theorem not_isSync_of_isGlitch {cfg : Config} {d : Nat} (h : cfg.wf = true) (hd : cfg.isGlitch d) :
    ¬ cfg.isSync d := by
  obtain ⟨-, -, hlow, hhigh, -, -, -⟩ := cfg.wf_iff.mp h
  unfold Config.isGlitch at hd
  unfold Config.isSync
  omega

/-- A glitch freezes the frame, whatever follows short of a sync (40_edge_decoder.md R109, R113). -/
theorem risesAfter_glitch {s : State} {g : Tick} {qs : List Tick} (h : s.Inv) (hen : s.en = true)
    (hg : s.cfg.isGlitch g.toNat) (hqs : ∀ q ∈ qs, ¬ s.cfg.isSync q.toNat) :
    ∃ c, risesAfter (g :: qs) s = .next (anchor c (glitch s)) ∧ (anchor c (glitch s)).Inv := by
  have hwidth := lt_two_pow_width_of_not_isSync h.cfg_wf (not_isSync_of_isGlitch h.cfg_wf hg)
  obtain ⟨c, hrise, hinv⟩ := riseAfter_of_takeDelta h hen hwidth (takeDelta_of_glitch h.cfg_wf hg)
  rw [risesAfter_cons hrise]
  exact risesAfter_of_frozen hinv hen rfl rfl hqs

/-! ### An open frame -/

/-- From `s` a frame was opened, and in `t` the pulses `ps` of it have come: the slots below CURSOR hold the first
`min(k, NCH)` of them in order, and the others are as in `s` (40_edge_decoder.md R113). -/
structure FrameHolds (ps : List Tick) (s t : State) : Prop where
  inv : t.Inv
  cfg : t.cfg = s.cfg
  nch : t.nch = s.nch
  en : t.en = true
  frameOk : t.frameOk = true
  cursor : t.cursor.toNat = min ps.length s.nch.toNat
  filled : ∀ i : Fin 16, i.val < t.cursor.toNat → some t.live[i] = ps[i.val]?
  kept : ∀ i : Fin 16, t.cursor.toNat ≤ i.val → t.live[i] = s.live[i]

/-- A sync opens a frame that holds no pulse yet (40_edge_decoder.md R107). -/
theorem frameHolds_nil {s : State} {c : Tick} (hen : s.en = true) (h : (anchor c (sync s)).Inv) :
    FrameHolds [] s (anchor c (sync s)) := by
  obtain ⟨front, seq, hsync⟩ := sync_eq_openFrame s
  rw [hsync] at h ⊢
  exact {
    inv := h
    cfg := rfl
    nch := rfl
    en := hen
    frameOk := rfl
    cursor := (Nat.zero_min _).symm
    filled := fun i hi => absurd hi (Nat.not_lt_zero _)
    kept := fun _ _ => rfl }

namespace FrameHolds

variable {ps : List Tick} {s t : State} {p : Tick} (h : FrameHolds ps s t)
include h

/-- A pulse below NCH goes to the next slot (40_edge_decoder.md R105). -/
theorem stored (hlt : ps.length < s.nch.toNat) {c : Tick} (hinv : (anchor c (store p t)).Inv) :
    FrameHolds (ps ++ [p]) s (anchor c (store p t)) := by
  have hlast : t.cursor.toNat = ps.length := by
    rw [h.cursor, Nat.min_eq_left hlt.le]
  have hcursor : (anchor c (store p t)).cursor.toNat = ps.length + 1 := by
    rw [anchor_cursor, store_cursor_toNat (by rw [h.nch]; omega), hlast]
  refine { h with inv := hinv, cursor := ?_, filled := fun i hi => ?_, kept := fun i hi => ?_ }
  · rw [hcursor, List.length_append, List.length_singleton, Nat.min_eq_left hlt]
  · rw [hcursor] at hi
    rw [anchor_live, store_live, writeBank_get, hlast]
    split
    · next hi' => rw [hi', List.getElem?_concat_length]
    · next hi' =>
      rw [List.getElem?_append_left (by omega)]
      exact h.filled i (by omega)
  · rw [hcursor] at hi
    rw [anchor_live, store_live, writeBank_get_other _ _ _ _ (by omega)]
    exact h.kept i (by omega)

/-- A pulse past NCH is dropped (40_edge_decoder.md R106). -/
theorem dropped (hle : s.nch.toNat ≤ ps.length) {c : Tick} (hinv : (anchor c t).Inv) :
    FrameHolds (ps ++ [p]) s (anchor c t) := by
  refine { h with inv := hinv, cursor := ?_, filled := fun i hi => ?_ }
  · rw [anchor_cursor, h.cursor, List.length_append, List.length_singleton]
    omega
  · have hlt : i.val < ps.length := by
      have hcursor := h.cursor
      rw [anchor_cursor] at hi
      omega
    rw [List.getElem?_append_left hlt]
    exact h.filled i hi

/-- One more pulse of an open frame (40_edge_decoder.md R113). -/
theorem pulse (hp : s.cfg.isPulse p.toNat) : ∃ u, riseAfter p t = .next u ∧ FrameHolds (ps ++ [p]) s u := by
  have hpulse : t.cfg.isPulse p.toNat := h.cfg ▸ hp
  have hwidth := isPulse_lt_two_pow_width h.inv.cfg_wf hpulse
  have hcursor := h.cursor
  by_cases hlt : ps.length < s.nch.toNat
  · have hbelow : t.cursor.toNat < t.nch.toNat := by rw [h.nch]; omega
    obtain ⟨hinited, -⟩ := h.inv.enabled.1 h.en
    obtain ⟨c, hrise, hinv⟩ := riseAfter_of_takeDelta h.inv h.en hwidth
      (takeDelta_of_stored_pulse hpulse hbelow (cursor_lt_of_inv h.inv hinited hbelow))
    exact ⟨_, hrise, h.stored hlt hinv⟩
  · obtain ⟨c, hrise, hinv⟩ := riseAfter_of_takeDelta h.inv h.en hwidth
      (takeDelta_of_excess_pulse hpulse (by rw [h.nch]; omega))
    exact ⟨_, hrise, h.dropped (by omega) hinv⟩

/-- An open frame is complete when the pulses have filled the slots of all channels (40_edge_decoder.md R107). -/
theorem frameComplete_iff_le : frameComplete t = true ↔ s.nch.toNat ≤ ps.length := by
  rw [frameComplete_iff, and_iff_right h.frameOk, ← BitVec.toNat_inj, h.cursor, h.nch]
  omega

end FrameHolds

/-- A sync and the pulses `ps` (40_edge_decoder.md R113). -/
theorem risesAfter_frameHolds {s : State} {d : Tick} {ps : List Tick} (h : s.Inv) (hen : s.en = true)
    (hd : d.toNat < 2 ^ s.cfg.width) (hsync : s.cfg.isSync d.toNat) (hps : ∀ p ∈ ps, s.cfg.isPulse p.toNat) :
    ∃ t, risesAfter (d :: ps) s = .next t ∧ FrameHolds ps s t := by
  induction ps using List.reverseRecOn with
  | nil =>
    obtain ⟨c, hrun, hinv⟩ := risesAfter_sync h hen hd hsync
    exact ⟨_, hrun, frameHolds_nil hen hinv⟩
  | append_singleton ps p ih =>
    obtain ⟨hps, hp⟩ := List.forall_mem_append.mp hps
    obtain ⟨t, hrun, hholds⟩ := ih hps
    obtain ⟨u, hrise, hholds'⟩ := hholds.pulse (hp p (List.mem_singleton_self p))
    refine ⟨u, ?_, hholds'⟩
    rw [← List.cons_append, risesAfter_append hrun, risesAfter_cons hrise, risesAfter]

/-- Settles O52: `FrameHolds` when the closing sync comes, and a publication hands over the live bank. -/
theorem frameLaw : Obligations.FrameLaw := by
  intro s d0 d1 ps h hen hd0 hd1 hsync0 hsync1 hps
  obtain ⟨u, hrun, hu⟩ := risesAfter_frameHolds h hen hd0 hsync0 hps
  obtain ⟨c, hclose, -⟩ := risesAfter_sync hu.inv hu.en (hu.cfg ▸ hd1) (hu.cfg ▸ hsync1)
  have hlive : (anchor c (sync u)).live = u.live := sync_live u
  rw [← hu.cursor]
  refine ⟨u, anchor c (sync u), hrun, hclose, ?_, ?_, rfl, rfl, fun hshort => ?_, fun hfull => ?_⟩
  · rw [hlive]
    exact hu.filled
  · rw [hlive]
    exact hu.kept
  · have hincomplete : frameComplete u = false := by
      rw [Bool.eq_false_iff, Ne, hu.frameComplete_iff_le]
      omega
    rw [sync_of_incomplete hincomplete]
    exact ⟨rfl, rfl⟩
  · obtain ⟨hseq, hfront, -, hbank⟩ := sync_publishesLiveBank hu.inv (hu.frameComplete_iff_le.mpr hfull)
    refine ⟨hseq, hfront, fun i hi => ?_⟩
    have hslot : (frontBank (anchor c (sync u)))[i] = u.live[i] := by
      rw [← sync_live u]
      exact hbank i (by rwa [hu.nch])
    have hcursor := hu.cursor
    rw [hslot]
    exact hu.filled i (by omega)

/-- Settles O53: the glitch leaves the slots of `FrameHolds` and clears FRAME_OK until the closing sync. -/
theorem glitchedFrameLaw : Obligations.GlitchedFrameLaw := by
  intro s d0 g d1 ps qs h hen hd0 hd1 hsync0 hsync1 hg hps hqs
  obtain ⟨v, hrun, hv⟩ := risesAfter_frameHolds h hen hd0 hsync0 hps
  obtain ⟨c, hfreeze, hinv⟩ := risesAfter_glitch hv.inv hv.en (hv.cfg ▸ hg) (hv.cfg ▸ hqs)
  obtain ⟨c', hclose, -⟩ := risesAfter_sync hinv hv.en (hv.cfg ▸ hd1) (hv.cfg ▸ hsync1)
  rw [sync_of_incomplete rfl] at hclose
  rw [← hv.cursor]
  exact ⟨_, _, (risesAfter_append hrun).trans hfreeze, hclose, hv.filled, hv.kept, rfl, rfl, rfl, rfl⟩

end Sys2Proof.Machine
end

section
/-! SUPPORT. A host word that faults at decode (41_host_port.md R130 step 1, 30_encoding.md R78, R79). -/

namespace Sys2Proof

/-- The decoder's own faults are IllegalOp and ReservedBits (41_host_port.md R130 step 1). -/
theorem decodeHost_faulty {w : Word} {f : FaultCode} (h : decodeHost w = .faulty f) :
    f = .illegalOp ∨ f = .reservedBits := by
  simp only [decodeHost] at h
  split_ifs at h
  iterate 9
    · exact .inr ((requestIf_faulty _ _ f).mp h).2
  · exact .inl (HostDecode.faulty.inj h).symm

end Sys2Proof

namespace Sys2Proof.Machine

theorem readDelivery_of_faulty {d : Delivery} {w : Word} {f : FaultCode} (hw : wordOfDelivery d = some w)
    (hf : decodeHost w = .faulty f) : readDelivery d = .badRequest w f := by
  simp only [readDelivery, hw, hf]

/-- Settles O9: the fetch finds the bad request, and taking its fault is all the step does. -/
theorem hostDecodeFaultIsTaken : Obligations.HostDecodeFaultIsTaken := by
  intro s cs ds rest ts d w f hwf hts hq hw hf
  have hcause := decodeHost_faulty hf
  have hcode : codeOf f = if f = .illegalOp then 1 else 2 := by
    obtain rfl | rfl := hcause <;> rfl
  have hfetch := fetch_of_host hts hq
  have hbad : (fetch s).1 = .badRequest w f := by rw [hfetch, readDelivery_of_faulty hw hf]
  refine ⟨hcause, ?_⟩
  rw [step_of_fetch_badRequest hwf hbad, hfetch, raiseFault_eq_errState, hcode]

end Sys2Proof.Machine
end

section
/-! SUPPORT. INIT by the outcome of its checks (41_host_port.md R131). -/

namespace Sys2Proof.Machine

section
variable {n : BitVec 16} {s : State}

/-! ### The checks, in their order -/

theorem initCheck_of_inited (h : s.inited = true) : initCheck n s = some .reInit := by
  rw [initCheck, if_pos h]

theorem initCheck_of_bad_count (h : s.inited = false) (hn : n.toNat < 1 ∨ 16 < n.toNat) :
    initCheck n s = some .badChannelCount := by
  rw [initCheck, if_neg (by simp [h]), if_pos hn]

theorem initCheck_of_bad_map (h : s.inited = false) (hn : ¬ (n.toNat < 1 ∨ 16 < n.toNat))
    (hmap : mapFits s.cfg.mapCfg n.toNat = false) : initCheck n s = some .badChannelMap := by
  rw [initCheck, if_neg (by simp [h]), if_neg hn, if_pos hmap]

theorem mapFits_eq_false_iff (m : ChannelMap) (n : Nat) :
    mapFits m n = false ↔ ∃ i : Fin 16, i.val < n ∧ n ≤ m[i].toNat := by
  rw [Bool.eq_false_iff, Ne, mapFits_iff]
  push Not
  rfl

/-! ### What INIT then does -/

theorem exec_init_of_some (capOk : Bool) {f : FaultCode} (h : initCheck n s = some f) :
    exec (.init capOk n) s = .next (errState (encode (.init capOk n)) f (codeOf f) s) := by
  change endRequest _ (initCheck n s) _ s = _
  rw [h, endRequest_some, raiseFault_eq_errState]

theorem exec_init_of_none (capOk : Bool) (h : initCheck n s = none) :
    exec (.init capOk n) s = .next (okState 0 (initialise capOk n s)) := by
  change endRequest _ (initCheck n s) _ s = _
  rw [h, endRequest_none]
  rfl

end

/-- Settles O28: one clause for each outcome of the checks. -/
theorem initWritesOrFaults : Obligations.InitWritesOrFaults := by
  intro s capOk n
  refine ⟨fun h => ?_, fun h hn => ?_, fun h hpos hle hmap => ?_, fun h hpos hle hmap => ?_⟩
  · exact exec_init_of_some capOk (initCheck_of_inited h)
  · exact exec_init_of_some capOk (initCheck_of_bad_count h hn)
  · exact exec_init_of_some capOk (initCheck_of_bad_map h (by omega) ((mapFits_eq_false_iff _ _).mpr hmap))
  · rw [exec_init_of_none capOk ((initCheck_none_iff n s).mpr ⟨h, hpos, hle, (mapFits_iff _ _).mpr hmap⟩),
      BitVec.ofNat_toNat]
    rfl

end Sys2Proof.Machine
end

section
/-! SUPPORT. The host requests other than INIT, each by its checks and its response (41_host_port.md R133 to R139,
R141). -/

namespace Sys2Proof.Machine

/-- An indexed read by its checks: their two faults, or its value zero-extended (41_host_port.md R133 to R138). -/
theorem endRequest_indexCheck {m : Nat} (i : Instr) (outOfRange : FaultCode) (idx : Index) (v : BitVec m) (s : State) :
    endRequest i (indexCheck outOfRange idx s) (respond (zext32 v) s) s = .next
      (if s.inited = false then errState (encode i) .notInitialised 3 s
       else if s.nch.toNat ≤ idx.toNat then errState (encode i) outOfRange (codeOf outOfRange) s
       else okState (BitVec.ofNat 32 v.toNat) s) := by
  unfold indexCheck
  split
  · rw [endRequest_some, raiseFault_eq_errState]
    rfl
  · split
    · rw [endRequest_some, raiseFault_eq_errState]
    · rw [endRequest_none, BitVec.ofNat_toNat]
      rfl

/-- Settles O30: `endRequest_indexCheck` for the live slot. -/
theorem rdSlotReadsLiveSlot : Obligations.RdSlotReadsLiveSlot := fun s idx =>
  endRequest_indexCheck (.rdSlot idx) .slotIndexOutOfRange idx (readBank s.live idx) s

/-- Settles O31: `endRequest_indexCheck` for the live slot the map names. -/
theorem rdChReadsMappedLiveSlot : Obligations.RdChReadsMappedLiveSlot := fun s idx =>
  endRequest_indexCheck (.rdCh idx) .logicalIndexOutOfRange idx (readBank s.live (readMap s.map idx)) s

/-- Settles O32: the write stub checks nothing. -/
theorem wrChDoesNothing : Obligations.WrChDoesNothing := fun _ _ _ => rfl

/-- Settles O33: `endRequest_indexCheck` for the map entry. -/
theorem rdMapReadsMap : Obligations.RdMapReadsMap := fun s idx =>
  endRequest_indexCheck (.rdMap idx) .logicalIndexOutOfRange idx (readMap s.map idx) s

/-- The response to a read of the front bank, by FRONT (10_state.md R26, R27). -/
theorem okState_readBank_frontBank (idx : Index) (s : State) :
    okState (BitVec.ofNat 32 (readBank (frontBank s) idx).toNat) s =
      if s.front = true then okState (BitVec.ofNat 32 (readBank s.snap1 idx).toNat) s
      else okState (BitVec.ofNat 32 (readBank s.snap0 idx).toNat) s := by
  unfold frontBank
  split <;> rfl

/-- Settles O34: `endRequest_indexCheck` for the slot of the bank FRONT names. -/
theorem rdSnapReadsFrontBank : Obligations.RdSnapReadsFrontBank := by
  intro s idx
  have hread := endRequest_indexCheck (.rdSnap idx) .slotIndexOutOfRange idx (readBank (frontBank s) idx) s
  rw [okState_readBank_frontBank] at hread
  exact hread

/-- Settles O35: `endRequest_indexCheck` for the slot the map names, of the bank FRONT names. -/
theorem rdSnapChReadsMappedFrontBank : Obligations.RdSnapChReadsMappedFrontBank := by
  intro s idx
  have hread := endRequest_indexCheck (.rdSnapCh idx) .logicalIndexOutOfRange idx
    (readBank (frontBank s) (readMap s.map idx)) s
  rw [okState_readBank_frontBank] at hread
  exact hread

/-- Settles O36: RD_SEQ checks nothing. -/
theorem rdSeqReadsSeq : Obligations.RdSeqReadsSeq := fun _ => rfl

/-! ### Reads in range -/

theorem indexCheck_of_lt (outOfRange : FaultCode) {idx : Index} {s : State} (hinited : s.inited = true)
    (hlt : idx.toNat < s.nch.toNat) : indexCheck outOfRange idx s = none := by
  rw [indexCheck, if_neg (by simp [hinited]), if_neg (Nat.not_le.mpr hlt)]

/-- A host request other than INIT whose check passes only responds (41_host_port.md R130). -/
theorem exec_of_requestCheck_none {i : Instr} {s : State} (hi : i.onHostPort = true)
    (hinit : ∀ capOk n, i ≠ .init capOk n) (h : requestCheck i s = none) :
    exec i s = .next (okState (requestValue i s) s) := by
  rw [exec_eq_endRequest hi hinit, h, endRequest_none]
  rfl

/-- Settles O43: the map sends channels to slots below NCH, and every slot is plausible (10_state.md R39 I4, I5). -/
theorem rdChIsTotalAccessor : Obligations.RdChIsTotalAccessor := by
  intro s idx h hinited hlt
  obtain ⟨-, -, hmap⟩ := h.channels hinited
  obtain ⟨⟨hlow, hhigh⟩, -⟩ := h.slots hinited (readMap s.map idx).toFin
  have hvalue : (requestValue (.rdCh idx) s).toNat = s.live[(readMap s.map idx).toFin].toNat :=
    BitVec.toNat_setWidth_of_le (by decide)
  refine ⟨requestValue (.rdCh idx) s, exec_of_requestCheck_none rfl (by simp) (indexCheck_of_lt _ hinited hlt),
    ?_, ?_, (readMap s.map idx).toFin, hmap idx.toFin hlt, rfl, hvalue⟩
  · rwa [hvalue]
  · rwa [hvalue]

end Sys2Proof.Machine
end

section
/-! SUPPORT. Without a capture resource the store stays neutral until reset (41_host_port.md R132). -/

namespace Sys2Proof.Machine

/-! ### Entry -/

/-- An INIT without a capture resource leaves every slot neutral (41_host_port.md R132). -/
theorem initialise_neutralForever (n : BitVec 16) (s : State) : (initialise false n s).NeutralForever :=
  ⟨rfl, rfl, rfl, rfl, rfl, rfl, rfl⟩

/-! ### Steps -/

/-- `NeutralForever` speaks of the decoder's state alone. -/
theorem neutralForever_of_sameDecoder {s t : State} (h : s.NeutralForever) (hsame : SameDecoder s t) :
    t.NeutralForever := by
  obtain ⟨hcfg, -, -, -, hlive, -, hsnap0, hsnap1, -, hseq, -, hen, hinited, hcfgErr⟩ := hsame
  rw [State.NeutralForever, hcfg, hlive, hsnap0, hsnap1, hseq, hen, hinited, hcfgErr]
  exact h

theorem respond_sameDecoder (v : Word) (s : State) : SameDecoder s (respond v s) :=
  ⟨rfl, rfl, rfl, rfl, rfl, rfl, rfl, rfl, rfl, rfl, rfl, rfl, rfl, rfl⟩

theorem raiseFault_sameDecoder (w : Word) (f : FaultCode) (s : State) : SameDecoder s (raiseFault w f s) :=
  ⟨rfl, rfl, rfl, rfl, rfl, rfl, rfl, rfl, rfl, rfl, rfl, rfl, rfl, rfl⟩

/-- In an initialised block that is not enabled, edges are gated and requests only answer: no operation writes the
decoder's state (40_edge_decoder.md R101, 60_exceptions.md R168). -/
theorem exec_sameDecoder_of_disabled {i : Instr} {s t : State} (hinited : s.inited = true) (hen : s.en = false)
    (ht : exec i s = .next t) : SameDecoder s t := by
  obtain ⟨pol, c, rfl⟩ | hi := i.edge_or_onHostPort
  · obtain ⟨-, ⟨-, rfl⟩ | ⟨hen', -⟩⟩ := execEdge_cases ht
    · exact ⟨rfl, rfl, rfl, rfl, rfl, rfl, rfl, rfl, rfl, rfl, rfl, rfl, rfl, rfl⟩
    · exact absurd (hen.symm.trans hen') Bool.false_ne_true
  · obtain ⟨f, rfl⟩ | ⟨v, rfl⟩ := hostRequest_cases_of_inited hi hinited ht
    · exact raiseFault_sameDecoder _ f s
    · exact respond_sameDecoder v s

/-- Short of reset, every step keeps a neutral store (41_host_port.md R132). -/
theorem step_neutralForever {s t : State} (h : s.NeutralForever) (hno : noResetWithin 1 s)
    (ht : step s = .next t) : t.NeutralForever := by
  have hfetched := neutralForever_of_sameDecoder h (fetch_keeps s).1
  obtain ⟨-, ⟨-, rfl⟩ | ⟨hreset, -⟩ | ⟨i, -, hi⟩ | ⟨w, f, -, rfl⟩⟩ := step_cases ht
  · exact hfetched
  · exact absurd hreset (fetch_ne_reset hno)
  · have ⟨hinited, hen, _⟩ := hfetched
    exact neutralForever_of_sameDecoder hfetched (exec_sameDecoder_of_disabled hinited hen hi)
  · exact neutralForever_of_sameDecoder hfetched (raiseFault_sameDecoder w f _)

/-! ### What the host reads -/

@[simp] theorem readBank_replicate (v : Tick) (i : Index) : readBank (Vector.replicate 16 v) i = v := by
  simp [readBank]

theorem frontBank_of_neutralForever {s : State} (h : s.NeutralForever) :
    frontBank s = Vector.replicate 16 (neutralTick s.cfg) := by
  obtain ⟨-, -, -, -, -, hsnap0, hsnap1⟩ := h
  rw [frontBank, hsnap0, hsnap1, ite_self]

/-- Every read of a slot or of a front-bank entry in range responds NEUTRAL (41_host_port.md R132). -/
theorem exec_slotRead_of_neutralForever {s : State} (h : s.NeutralForever) {i : Instr} {idx : Index}
    (hlt : idx.toNat < s.nch.toNat)
    (hi : i = .rdSlot idx ∨ i = .rdCh idx ∨ i = .rdSnap idx ∨ i = .rdSnapCh idx) :
    exec i s = .next (okState (zext32 (neutralTick s.cfg)) s) := by
  have hfront := frontBank_of_neutralForever h
  obtain ⟨hinited, -, -, -, hlive, -, -⟩ := h
  have hcheck := fun f => indexCheck_of_lt f hinited hlt
  suffices hread : i.onHostPort = true ∧ (∀ capOk n, i ≠ .init capOk n) ∧ requestCheck i s = none ∧
      requestValue i s = zext32 (neutralTick s.cfg) by
    obtain ⟨hport, hinit, hnone, hvalue⟩ := hread
    rw [exec_of_requestCheck_none hport hinit hnone, hvalue]
  obtain rfl | rfl | rfl | rfl := hi
  · exact ⟨rfl, by simp, hcheck _, by simp [requestValue, hlive]⟩
  · exact ⟨rfl, by simp, hcheck _, by simp [requestValue, hlive]⟩
  · exact ⟨rfl, by simp, hcheck _, by simp [requestValue, hfront]⟩
  · exact ⟨rfl, by simp, hcheck _, by simp [requestValue, hfront]⟩

/-- Settles O29: the entry by `initialise_neutralForever`, the steps by `step_neutralForever`; what is read then is
told by `State.NeutralForever`. -/
theorem noCaptureResourceStaysNeutral : Obligations.NoCaptureResourceStaysNeutral := by
  refine ⟨fun s t n ht hrecord => ?_, fun s t h hno ht => step_neutralForever h hno ht, fun s h => ?_⟩
  · obtain ⟨-, rfl⟩ := execInit_of_sameRecord ht hrecord
    exact ⟨neutralForever_of_sameDecoder (initialise_neutralForever n s) (respond_sameDecoder 0 _), rfl⟩
  · have ⟨_, hen, hcfgErr, hseq, _⟩ := h
    refine ⟨fun pol c hc => gatedEdgeChangesNothing s pol c hc (.inl hen), ?_, ?_,
      fun idx i hlt hi => exec_slotRead_of_neutralForever h hlt hi⟩
    · rw [rdSeqReadsSeq, hseq]
    · exact ⟨statusWord s, rfl, (statusWord_bit s (by decide)).trans hcfgErr⟩

end Sys2Proof.Machine
end

section
/-! SUPPORT. A host request other than a first INIT leaves the decoder's state (60_exceptions.md R168). -/

namespace Sys2Proof.Machine

/-- A host request that is no first INIT takes a fault or responds, and does nothing else (60_exceptions.md R168). -/
theorem hostRequest_cases_of_not_first_init {i : Instr} {s t : State} (hi : i.onHostPort = true)
    (ht : exec i s = .next t) (hnot : s.inited = true ∨ ∀ capOk n, i ≠ .init capOk n) :
    (∃ f, t = raiseFault (encode i) f s) ∨ ∃ v, t = respond v s := by
  obtain hinited | hinit := hnot
  · exact hostRequest_cases_of_inited hi hinited ht
  · obtain hfault | ⟨capOk, n, heq, -⟩ | ⟨-, hrespond⟩ := hostRequest_cases hi ht
    · exact .inl hfault
    · exact absurd heq (hinit capOk n)
    · exact .inr hrespond

/-- Settles O39: a fault taken and a response both leave the decoder's state, and no operation touches the ports or the
schedule. -/
theorem hostFrame : Obligations.HostFrame := by
  intro s t i hi ht hnot
  refine ⟨?_, (exec_keeps ht).2⟩
  obtain ⟨f, rfl⟩ | ⟨v, rfl⟩ := hostRequest_cases_of_not_first_init hi ht hnot
  · exact raiseFault_sameDecoder (encode i) f s
  · exact respond_sameDecoder v s

end Sys2Proof.Machine
end

section
/-! SUPPORT. The reset turn (70_reset_and_hazards.md R180), and the block between reset and INIT (R181). -/

namespace Sys2Proof.Machine

/-! ### The reset turn -/

/-- A reset turn brings the reset, whatever is pending at the ports (60_exceptions.md R167). -/
theorem fetch_of_resetPin {s : State} {cs : List Word} {ds : List Delivery} {ts : List Turn}
    (hts : s.turns = ⟨.resetPin, cs, ds⟩ :: ts) : (fetch s).1 = .reset := by
  simp only [fetch, hts]

/-- Settles O14: the step is `assertReset`, and the fetch before it keeps the record, the responses and the faults. -/
theorem resetStepClears : Obligations.ResetStepClears := by
  intro s cs ds ts hwf hts
  obtain ⟨⟨hcfg, -⟩, -, -, hresponses, hrecord⟩ := fetch_keeps s
  have hwidth : (assertReset (fetch s).2).lastRise.toNat < 2 ^ s.cfg.width := by
    rw [← hcfg]
    exact truncTick_lt _ _
  exact ⟨assertReset (fetch s).2, step_of_fetch_reset hwf (fetch_of_resetPin hts), rfl, rfl,
    (congrArg List.length hresponses).le, rfl, rfl, rfl, rfl, rfl, rfl, rfl, rfl, rfl, rfl, hwidth, hrecord⟩

/-! ### Operations before INIT -/

/-- While the block is not enabled an EDGE goes on as it is, or spells no event (40_edge_decoder.md R101,
30_encoding.md R73). -/
theorem exec_edge_of_disabled {s : State} (hen : s.en = false) (pol : Bool) (c : Tick) :
    exec (.edge pol c) s = if c.toNat < 2 ^ s.cfg.width then .next s else .refused .noEvent := by
  change execEdge pol c s = _
  rw [execEdge, if_pos hen]

/-- An indexed read of a block without INIT fails its first check (41_host_port.md R130 step 2). -/
theorem exec_indexedRead_of_not_inited {i : Instr} {s : State} (hi : i.isIndexedRead = true)
    (hinited : s.inited = false) : exec i s = .next (raiseFault (encode i) .notInitialised s) := by
  have hcheck (f : FaultCode) (idx : Index) : indexCheck f idx s = some .notInitialised := if_pos hinited
  cases i with
  | edge | init | wrCh | rdSeq | rdStatus => cases hi
  | rdSlot | rdCh | rdMap | rdSnap | rdSnapCh =>
    rw [exec_eq_endRequest rfl (by simp), requestCheck, hcheck, endRequest_some]

/-- Before INIT and without a fault every bit of STATUS is 0 (10_state.md R36, R39 I2). -/
theorem statusWord_of_not_inited {s : State} (h : s.Inv) (hinited : s.inited = false) (hhostErr : s.hostErr = false) :
    statusWord s = 0 := by
  obtain ⟨hen, hcfgErr, hnch, hcursor, -, hfront, hframeOk⟩ := h.unconfigured hinited
  have herrCode : s.errCode = 0 := h.error_register.2.mp hhostErr
  rw [statusWord, hen, hinited, hcfgErr, hfront, hframeOk, hhostErr, hcursor, hnch, herrCode]
  rfl

/-- ERR_CODE is bits 27:24 of STATUS, as a number (10_state.md R36). -/
theorem statusWord_errCode (s : State) : (statusWord s).toNat / 2 ^ 24 % 16 = s.errCode.toNat := by
  have hfield : (statusWord s).extractLsb' 24 4 = s.errCode :=
    extractLsb'_eq_of_bits fun i hi => by
      rw [statusWord_bit s (by omega)]
      interval_cases i <;> rfl
  rw [← hfield, BitVec.extractLsb'_toNat, Nat.shiftRight_eq_div_pow]

/-- Settles O16: `State.UnconfiguredIsClear` shuts the enable gate and clears SEQ and STATUS, and the indexed reads fail
their first check. -/
theorem unconfiguredBehaviour : Obligations.UnconfiguredBehaviour := by
  intro s h hinited
  obtain ⟨hen, -, -, -, hseq, -, -⟩ := h.unconfigured hinited
  refine ⟨fun pol c hc => gatedEdgeChangesNothing s pol c hc (.inl hen), fun i hi => ?_, ?_,
    ⟨statusWord s, rfl, statusWord_of_not_inited h hinited, fun hhostErr => ⟨?_, statusWord_errCode s⟩⟩,
    wrChDoesNothing s⟩
  · rw [exec_indexedRead_of_not_inited hi hinited, raiseFault_eq_errState]
    rfl
  · rw [rdSeqReadsSeq, hseq]
  · exact (statusWord_bit s (by decide)).trans hhostErr

/-! ### What the arrays hold before INIT -/

/-- Settles O42: before INIT only an INIT that passes its checks touches L, MAP or SNAP, and it overwrites them whole. -/
theorem resetArraysUnobservable : Obligations.ResetArraysUnobservable := by
  intro s i live map snap0 snap1 hinited hen
  have hinited' : (s.withArrays live map snap0 snap1).inited = false := hinited
  have hen' : (s.withArrays live map snap0 snap1).en = false := hen
  cases i with
  | edge pol c =>
    right
    rw [exec_edge_of_disabled hen, exec_edge_of_disabled hen', apply_ite (mapNext _)]
    rfl
  | init capOk n =>
    cases hcheck : initCheck n s with
    | none =>
      have hcheck' : initCheck n (s.withArrays live map snap0 snap1) = none := hcheck
      exact .inl ⟨⟨capOk, n, rfl⟩, by rw [exec_init_of_none capOk hcheck, exec_init_of_none capOk hcheck']; rfl⟩
    | some f =>
      have hcheck' : initCheck n (s.withArrays live map snap0 snap1) = some f := hcheck
      right
      rw [exec_init_of_some capOk hcheck, exec_init_of_some capOk hcheck']
      rfl
  | rdSlot | rdCh | rdMap | rdSnap | rdSnapCh =>
    right
    rw [exec_indexedRead_of_not_inited rfl hinited, exec_indexedRead_of_not_inited rfl hinited']
    rfl
  | wrCh | rdSeq | rdStatus => exact .inr rfl

end Sys2Proof.Machine
end

section
/-! SUPPORT. A turn that finds nothing to do (log entry 5). -/

namespace Sys2Proof.Machine

/-- At the end of the schedule nothing is fetched. -/
theorem fetch_of_no_turns {s : State} (hts : s.turns = []) : fetch s = (.idle, s) := by
  simp [fetch, hts]

/-- The host's turn with no delivery pending or presented: the turn is taken and its edge words wait (20_memory.md R59). -/
theorem fetch_of_idle_host {s : State} {cs : List Word} {ds : List Delivery} {ts : List Turn}
    (hts : s.turns = ⟨.host, cs, ds⟩ :: ts) (hq : s.hostQueue ++ ds = []) :
    fetch s = (.idle, { s with turns := ts, captureQueue := s.captureQueue ++ cs, hostQueue := [] }) := by
  simp [fetch, hts, fetchHost, arrive, hq]

/-- The capture agent's turn with no edge word pending or presented: the turn is taken and its deliveries wait. -/
theorem fetch_of_idle_capture {s : State} {cs : List Word} {ds : List Delivery} {ts : List Turn}
    (hts : s.turns = ⟨.capture, cs, ds⟩ :: ts) (hq : s.captureQueue ++ cs = []) :
    fetch s = (.idle, { s with turns := ts, captureQueue := [], hostQueue := s.hostQueue ++ ds }) := by
  simp [fetch, hts, fetchCapture, arrive, hq]

theorem step_of_fetch_eq_idle {s t : State} (hwf : s.cfg.wf = true) (h : fetch s = (.idle, t)) : step s = .next t := by
  have hidle : (fetch s).1 = .idle := by rw [h]
  rw [step_of_fetch_idle hwf hidle, h]

/-- Settles O13: each of the three turns fetches nothing, and the step goes on with what the fetch leaves. -/
theorem idleTurnPasses : Obligations.IdleTurnPasses := by
  intro s hwf
  refine ⟨fun hts => ?_, fun cs ds ts hts hq => ?_, fun cs ds ts hts hq => ?_⟩
  · exact step_of_fetch_eq_idle hwf (fetch_of_no_turns hts)
  · exact step_of_fetch_eq_idle hwf (fetch_of_idle_host hts hq)
  · exact step_of_fetch_eq_idle hwf (fetch_of_idle_capture hts hq)

end Sys2Proof.Machine
end

section
/-! SUPPORT. The word placed for the next step (log entry 12). -/

namespace Sys2Proof

/-- The table's decoder is the decoder of the port that carries the word (30_encoding.md R80). -/
theorem decodeTableWord_cases {nbits w : Nat} {word : Word} {i : Instr} (hword : word = BitVec.ofNat 32 (w % 2 ^ nbits))
    (h : decodeTableWord nbits w = some i) :
    (opField word = 1 ∧ decodeCapture 16 word = some i) ∨ (opField word ≠ 1 ∧ decodeHost word = .request i) := by
  simp only [decodeTableWord, wordOfDelivery_deliveryOf, ← hword] at h
  split_ifs at h with hop
  · exact .inl ⟨hop, h⟩
  · cases hd : decodeHost word with
    | request j =>
      simp only [hd, Option.some.injEq] at h
      exact .inr ⟨hop, congrArg _ h⟩
    | faulty f => simp [hd] at h

end Sys2Proof

namespace Sys2Proof.Machine

@[simp] theorem placeWord_cfg (s : State) (w : Word) : (placeWord s w).cfg = s.cfg := by
  unfold placeWord
  split <;> rfl

/-- Fetching a placed word reads it at its port and gives back the state it was placed in. -/
theorem fetch_placeWord (s : State) (w : Word) :
    fetch (placeWord s w) =
      (if opField w = 1 then readCapture s.cfg.width w else readDelivery (deliveryOf w), s) := by
  by_cases hop : opField w = 1
  · rw [placeWord, if_pos hop, if_pos hop, fetch_of_capture rfl (List.append_nil _), List.append_nil]
  · rw [placeWord, if_neg hop, if_neg hop, fetch_of_host rfl (List.append_nil _), List.append_nil]

/-- Settles O17: the port `placeWord` chooses reads the word as the table's decoder does. -/
theorem placedWordRunsNext : Obligations.PlacedWordRunsNext := by
  intro s w i hwf hwidth h
  have hfetch := fetch_placeWord s (BitVec.ofNat 32 (w % 2 ^ 32))
  have hrun : (fetch (s.withFetchWord 32 w)).1 = .run i := by
    rw [State.withFetchWord, hfetch]
    obtain ⟨hop, hi⟩ | ⟨hop, hi⟩ := decodeTableWord_cases rfl h
    · rw [if_pos hop, readCapture_of_some (hwidth ▸ hi)]
    · rw [if_neg hop, readDelivery_of_request (wordOfDelivery_deliveryOf _) hi]
  have hwf' : (s.withFetchWord 32 w).cfg.wf = true := by rwa [State.withFetchWord, placeWord_cfg]
  rw [step_of_fetch_run hwf' hrun, State.withFetchWord, hfetch]

end Sys2Proof.Machine
end
